-- ==== Sys2Proof/Word.lean ====
section
/-! DEFINITION. The words of the block: the spec's bit widths DW, CW, SW (00_scope.md R6) and the types that carry them. -/

namespace Sys2Proof

/-- A byte of the wire: `bus_data[7:0]`, bit 7 the most significant (20_memory.md R33). -/
abbrev Byte := BitVec 8

/-- A bus status code, SW = 8 bits (30_encoding.md R47). -/
abbrev Status := BitVec 8

/-- A number of timer ticks held in a register: a duty, `TCNT`, `OCR`; DW = 16 bits (00_scope.md R6). -/
abbrev Ticks := BitVec 16

/-- A bus event word `bev[15:0]` (30_encoding.md R47). -/
abbrev EventWord := BitVec 16

end Sys2Proof
end

