-- ==== Sys2Proof/Config.lean ====
section
/-! DEFINITION. The parameters of the block (00_scope.md R6), the constraints among them (R7), and the values the spec
leaves OPEN, as constants with no body. -/

namespace Sys2Proof

/-- `N`, the number of channels, of entries of a schedule and of bytes of a transaction (00_scope.md R6, fixed by the source). -/
abbrev N : Nat := 12

/-- The parameters whose values are not the source's: decisions of the spec, and `MARGIN` (00_scope.md R6).
Operations take them as an argument, so that a statement can be made for every legal set. -/
structure Params where
  /-- `DUTY_MIN`, the duty of wire byte 0, in ticks. -/
  dutyMin : Nat
  /-- `DUTY_MAX`, the duty of wire byte 255, in ticks. -/
  dutyMax : Nat
  /-- `FRAME_TICKS`, the ticks of a frame; `TCNT` counts 0 to `FRAME_TICKS - 1`. -/
  frameTicks : Nat
  /-- `MARGIN`, the look-ahead added per loop iteration of COMPARE_MATCH, in ticks. -/
  margin : Nat
  /-- `SC_ADDR_W`, status code "address matched for write". -/
  scAddrW : Status
  /-- `SC_DATA`, status code "data byte received". -/
  scData : Status
  /-- `SC_STOP`, status code "stop or repeated start". -/
  scStop : Status
deriving DecidableEq, Repr

/-- What a parameter set must satisfy (00_scope.md R7), with CW = 4 and DW = 16. -/
abbrev Params.Legal (p : Params) : Prop :=
  (1 ≤ N ∧ N ≤ 2 ^ 4 - 1) ∧
  (1 ≤ p.dutyMin ∧ p.dutyMin ≤ p.dutyMax ∧ p.dutyMax ≤ p.frameTicks - 1) ∧
  p.frameTicks ≤ 2 ^ 16 ∧
  p.frameTicks - 1 + N * p.margin < 2 ^ 16 ∧
  (p.scAddrW ≠ p.scData ∧ p.scAddrW ≠ p.scStop ∧ p.scData ≠ p.scStop)

namespace Config

/-- `TICK_PERIOD` in microseconds (00_scope.md R6, the spec's decision D5). -/
abbrev tickPeriodMicros : Nat := 1

/-- `FRAME_PERIOD`, 20 ms, in microseconds (00_scope.md R6, fixed by the source). -/
abbrev framePeriodMicros : Nat := 20000

/-- `FRAME_TICKS = FRAME_PERIOD / TICK_PERIOD` (00_scope.md R6). -/
abbrev frameTicks : Nat := framePeriodMicros / tickPeriodMicros

/-- `MARGIN` is OPEN (00_scope.md R6, R95): any value that R7 allows, `MARGIN <= 3794`, and nothing more is known of it.
DEDUCED (log 6); safe: a claim holds for every legal margin. -/
opaque openMargin : Fin 3795

/-- `MARGIN` as a number of ticks. -/
def margin : Nat := openMargin.val

/-- `SLAVE_ADDR` is OPEN and used by no rule (00_scope.md R6, D20; log 13). -/
opaque slaveAddr : Nat

/-- `PIN_MAP`, channel to physical pin, is OPEN and used by no rule (00_scope.md R6, D20; log 13). -/
opaque pinMap : Fin N → Nat

/-- The parameter set of the machine: the table of 00_scope.md R6.
`DUTY_MIN`, `DUTY_MAX`, `FRAME_TICKS` and the three codes are decisions of the spec (D4, D5, D1; log 7). -/
def params : Params where
  dutyMin := 1000
  dutyMax := 2000
  frameTicks := frameTicks
  margin := margin
  scAddrW := 0x60
  scData := 0x80
  scStop := 0xA0

end Config
end Sys2Proof
end

