-- ==== Sys2Proof/Syntax.lean ====
section
/-! DEFINITION. The instruction set: the closed set of events the block services (30_encoding.md R58), one constructor per
row of spec/opcode_table.json. -/

namespace Sys2Proof

/-- An event of the block. A data field the spec ignores (30_encoding.md R47, U16) is no operand. -/
inductive Instr where
  /-- RESET, `rst` = 1 (70_reset_and_hazards.md R124). -/
  | reset
  /-- TICK, `tick` = 1 (43_pulse_engine.md R91). -/
  | tick
  /-- ADDR_W, "address matched for write" (40_bus_transaction.md R65). -/
  | addrW
  /-- DATA, "data byte received", with the wire byte `bev[7:0]` (40_bus_transaction.md R66, R67, R70). -/
  | data (raw : Byte)
  /-- STOP, "stop or repeated start" (40_bus_transaction.md R68, R70). -/
  | stop
  /-- BUS_ERR, an unexpected status code, `bev[15:8]` (40_bus_transaction.md R69). -/
  | busErr (status : Status)
  /-- FRAME_START, the internal event of the wrap, `tev` bit 0 (43_pulse_engine.md R92). -/
  | frameStart
  /-- COMPARE_MATCH, the internal event of the compare, `tev` bit 1; its operand `t0` is not encoded (43_pulse_engine.md R93). -/
  | compareMatch
deriving DecidableEq, Repr

end Sys2Proof
end

