-- ==== Sys2Proof/WellFormed.lean ====
section
/-! DEFINITION. Which instruction terms an event can be: an unexpected status code is none of the three expected ones
(30_encoding.md R48: "any of the other 253 values"). -/

namespace Sys2Proof

/-- The status code is one of the three the block expects (30_encoding.md R48). -/
abbrev Params.Expected (p : Params) (status : Status) : Prop :=
  status = p.scAddrW ∨ status = p.scData ∨ status = p.scStop

/-- Well-formed under the parameter set `p`: BUS_ERR carries a status outside the three expected codes. -/
def Instr.wellFormedWith (p : Params) : Instr → Bool
  | .reset => true
  | .tick => true
  | .addrW => true
  | .data _ => true
  | .stop => true
  | .busErr status => !decide (p.Expected status)
  | .frameStart => true
  | .compareMatch => true

/-- Well-formed under the machine's own parameters. -/
def Instr.wellFormed (i : Instr) : Bool := i.wellFormedWith Config.params

end Sys2Proof
end

