-- ==== Sys2Proof/Decode.lean ====
section
/-! DEFINITION. Decoding and encoding. The block decodes no instruction words: it decodes what stands on its ports
(30_encoding.md R46, R47, R55), in the three formats of spec/opcode_table.json, PIN (one bit, on `rst` or on `tick`), BUS
(the 16-bit event word) and TMR (the 2-bit internal timer event vector). -/

namespace Sys2Proof

/-- A word in one of the formats of the opcode table. Format PIN is one format on two ports. -/
inductive PortWord where
  /-- Format PIN on port `rst`. -/
  | rst (level : BitVec 1)
  /-- Format PIN on port `tick`. -/
  | tick (level : BitVec 1)
  /-- Format BUS: `bev[15:0] = {bus_status, bus_data}`. -/
  | bus (bev : EventWord)
  /-- Format TMR: `tev[1:0] = {cmp_hit, ovf_hit}`. -/
  | tmr (tev : BitVec 2)
deriving DecidableEq, Repr

/-- Why a word selects no event: its port is not asserted. -/
inductive DecodeError where
  /-- `rst` = 0. -/
  | rstLow
  /-- `tick` = 0. -/
  | tickLow
  /-- `tev` = 0: the TICK raised neither internal event. -/
  | noTimerEvent
deriving DecidableEq, Repr

/-! ## The bus event word (30_encoding.md R47) -/

/-- `bev[15:8]`, the status code. -/
def busStatusOf (bev : EventWord) : Status := bev.extractLsb' 8 8

/-- `bev[7:0]`, the data byte. -/
def busDataOf (bev : EventWord) : Byte := bev.extractLsb' 0 8

/-- `{bus_status, bus_data}`. -/
def busWord (status : Status) (data : Byte) : EventWord := status ++ data

/-! ## Decoding -/

/-- Decoding of a bus event is total and ordered: ADDR_W, DATA, STOP in turn, and what matches none is BUS_ERR
(30_encoding.md R48, R49). -/
def decodeBus (p : Params) (bev : EventWord) : Instr :=
  if busStatusOf bev = p.scAddrW then .addrW
  else if busStatusOf bev = p.scData then .data (busDataOf bev)
  else if busStatusOf bev = p.scStop then .stop
  else .busErr (busStatusOf bev)

/-- The internal timer event serviced first: FRAME_START before COMPARE_MATCH when both are raised (30_encoding.md R55). -/
def decodeTmr (tev : BitVec 2) : Except DecodeError Instr :=
  if tev.getLsbD 0 then .ok .frameStart
  else if tev.getLsbD 1 then .ok .compareMatch
  else .error .noTimerEvent

/-- Decoding of a word in any format, under the parameter set `p`. -/
def decodeWith (p : Params) : PortWord → Except DecodeError Instr
  | .rst level => if level = 1 then .ok .reset else .error .rstLow
  | .tick level => if level = 1 then .ok .tick else .error .tickLow
  | .bus bev => .ok (decodeBus p bev)
  | .tmr tev => decodeTmr tev

/-- The machine's decoder. -/
def decode (w : PortWord) : Except DecodeError Instr := decodeWith Config.params w

/-! ## Encoding (30_encoding.md R55, R58; an ignored data field is written as 00) -/

/-- The word of an instruction under the parameter set `p`. -/
def encodeWith (p : Params) : Instr → PortWord
  | .reset => .rst 1
  | .tick => .tick 1
  | .addrW => .bus (busWord p.scAddrW 0)
  | .data raw => .bus (busWord p.scData raw)
  | .stop => .bus (busWord p.scStop 0)
  | .busErr status => .bus (busWord status 0)
  | .frameStart => .tmr 0b01
  | .compareMatch => .tmr 0b10

/-- The machine's encoder. -/
def encode (i : Instr) : PortWord := encodeWith Config.params i

/-! ## The opcode table as data -/

/-- The formats of spec/opcode_table.json. -/
inductive Format where
  | pin
  | bus
  | tmr
deriving DecidableEq, Repr

/-- The format of a word. -/
def PortWord.format : PortWord → Format
  | .rst _ => .pin
  | .tick _ => .pin
  | .bus _ => .bus
  | .tmr _ => .tmr

/-- The bits of a word, bit 0 the least significant, as the opcode table numbers them. -/
def PortWord.bits : PortWord → Nat
  | .rst level => level.toNat
  | .tick level => level.toNat
  | .bus bev => bev.toNat
  | .tmr tev => tev.toNat

/-- A row of the opcode table: its format and its match and mask. -/
structure OpRow where
  format : Format
  value : Nat
  mask : Nat
deriving DecidableEq, Repr

/-- The row of spec/opcode_table.json that an instruction is. -/
def Instr.row : Instr → OpRow
  | .reset => ⟨.pin, 0x1, 0x1⟩
  | .tick => ⟨.pin, 0x1, 0x1⟩
  | .addrW => ⟨.bus, 0x6000, 0xFF00⟩
  | .data _ => ⟨.bus, 0x8000, 0xFF00⟩
  | .stop => ⟨.bus, 0xA000, 0xFF00⟩
  | .busErr _ => ⟨.bus, 0x0000, 0x0000⟩
  | .frameStart => ⟨.tmr, 0x1, 0x1⟩
  | .compareMatch => ⟨.tmr, 0x2, 0x2⟩

/-- A word matches a row: same format, and the masked bits are the row's. -/
def OpRow.matches (r : OpRow) (w : PortWord) : Bool :=
  decide (w.format = r.format) && decide (w.bits &&& r.mask = r.value)

/-! ## Words as the host numbers them -/

/-- The port a table word of `nbits` bits stands on. Sixteen bits are a BUS word. One bit is a PIN word, two bits a TMR word,
and eight bits (the widths 1 and 2 rounded up to a whole byte) are either. The table gives RESET, TICK and FRAME_START the
same bits, and the bits do not say which port they stand on: the word 1 is read as TICK.
DESIGN CHOICE (log 5); safe: the machine itself fetches a word with its port. -/
def tableWord (nbits w : Nat) : Option PortWord :=
  if nbits = 16 then some (.bus (BitVec.ofNat 16 w))
  else if nbits = 1 then some (.tick (BitVec.ofNat 1 w))
  else if nbits = 2 then some (.tmr (BitVec.ofNat 2 w))
  else if nbits = 8 then
    if w = 1 then some (.tick 1)
    else if w < 4 then some (.tmr (BitVec.ofNat 2 w))
    else none
  else none

/-- The instruction the decoder reads from a table word. -/
def decodeTableWord (nbits w : Nat) : Option Instr :=
  match tableWord nbits w with
  | none => none
  | some word =>
    match decode word with
    | .ok i => some i
    | .error _ => none

end Sys2Proof
end

