-- ==== Sys2Proof/Machine/State.lean ====
section
/-! DEFINITION. The state of the block: the ten elements of 10_state.md R10 under the spec's names, and three fields of the
model's own (the response just driven, the internal timer event vector, the deliveries still to come). -/

namespace Sys2Proof.Machine

/-- A schedule entry (10_state.md R14): "this channel's output should go low `duty` timer-ticks into the frame". -/
structure Entry where
  channel : Fin N
  duty : Ticks
deriving DecidableEq, Repr

/-- A Pulse Schedule instance: exactly `N` entries (10_state.md R14). -/
abbrev Schedule := Vector Entry N

/-- `bus_state` (10_state.md R11). COMPLETE and ERROR are entered and left inside one operation. -/
inductive BusState where
  | idle
  | receiving
  | complete
  | error
deriving DecidableEq, Repr

/-- The response to a bus event (30_encoding.md R51). -/
inductive Response where
  /-- ACK: `bus_ack` = 1, `bus_reset` = 0. -/
  | ack
  /-- BUS_RESET: `bus_ack` = 0, `bus_reset` = 1. -/
  | busReset
deriving DecidableEq, Repr

/-- One sample of the input ports (30_encoding.md R46). `busFirst` is no port: it says which of two coinciding events is
serviced first, which the spec leaves open (20_memory.md R44). DESIGN CHOICE (log 2); safe: it may have any value. -/
structure PortSample where
  rst : Bool
  tick : Bool
  busEvValid : Bool
  busStatus : Status
  busData : Byte
  busFirst : Bool
deriving DecidableEq, Repr

/-- The state. The first eleven fields are the spec's (10_state.md R10); the last three are the model's own. -/
structure State where
  /-- `bus_state` (R11). -/
  busState : BusState
  /-- `idx`, 0 to N (R12). -/
  idx : Fin (N + 1)
  /-- `raw_duty[0..N-1]`: mapped duties (R13). -/
  rawDuty : Vector Ticks N
  /-- `sched[0]` (R14). -/
  sched0 : Schedule
  /-- `sched[1]` (R14). -/
  sched1 : Schedule
  /-- `front_sel`: false is 0, `sched[0]` is front; true is 1, `sched[1]` is front (R15, 30_encoding.md R54). -/
  frontSel : Bool
  /-- `update_pending` (R16). -/
  updatePending : Bool
  /-- `next_index`, 0 to N (R17). -/
  nextIndex : Fin (N + 1)
  /-- `TCNT` (R18). -/
  tcnt : Ticks
  /-- `OCR` (R19). -/
  ocr : Ticks
  /-- `out[0..N-1]`, by channel, true is the active, high level (R20). -/
  out : Vector Bool N
  /-- The response outputs of the operation just performed; none when it was no bus event.
  DESIGN CHOICE (log 4); safe: no operation reads it. -/
  resp : Option Response
  /-- `tev[1:0]` (30_encoding.md R55): internal timer events a step has still to service. No operation of the block sets it.
  DESIGN CHOICE (log 3); safe. -/
  tev : BitVec 2
  /-- The port samples the outside is going to deliver, oldest first. DESIGN CHOICE (log 1); safe: any list is allowed. -/
  inputs : List PortSample
deriving DecidableEq, Repr

/-- Why the machine stops with a fault: never. "A model has no fault state and no stuck state for this block"
(60_exceptions.md R114), so the type has no constructor. Safe and exact. -/
inductive Fault where
deriving DecidableEq, Repr

/-- Why a step has no meaning. -/
inductive Refusal where
  /-- An instruction that has no meaning yet. Raised by no arm of `exec`; safe. -/
  | notModelled (mnemonic : String)
  /-- The fetched word selects no event. Raised by `step` only, and never in fact: a fetched word's port is asserted. Safe. -/
  | undecodable (why : DecodeError)
deriving DecidableEq, Repr

/-! ## Reset (10_state.md R28, 70_reset_and_hazards.md R124) -/

/-- The reset content of both schedules: entry `k` is `(channel = k, duty = DUTY_MIN)`. -/
def resetSchedule (p : Params) : Schedule := Vector.ofFn fun k => ⟨k, BitVec.ofNat 16 p.dutyMin⟩

/-- The reset state under the parameter set `p`. Every value of the spec's elements is R28's (decision D16, log 11);
the model's own fields start empty (log 1, log 3, log 4). -/
def State.resetWith (p : Params) : State where
  busState := .idle
  idx := 0
  rawDuty := Vector.replicate N (BitVec.ofNat 16 p.dutyMin)
  sched0 := resetSchedule p
  sched1 := resetSchedule p
  frontSel := false
  updatePending := false
  nextIndex := Fin.last N
  tcnt := 0
  ocr := 0
  out := Vector.replicate N false
  resp := none
  tev := 0
  inputs := []

/-- The machine right after reset. -/
def State.reset : State := State.resetWith Config.params

end Sys2Proof.Machine
end

