-- ==== Sys2Proof/Machine/Operands.lean ====
section
/-! DEFINITION. Operands and the ways an operation reaches an element: the data byte and MAP, the stored formats, the front
and back buffers, the two register-indexed forms, and the output ports. -/

namespace Sys2Proof.Machine

/-! ## MAP (41_schedule_build.md R76, R77) -/

/-- MAP as an exact number: multiply first, at full precision, floor division by 255, then add `DUTY_MIN`. -/
def mapByte (p : Params) (raw : Byte) : Nat :=
  raw.toNat * (p.dutyMax - p.dutyMin) / 255 + p.dutyMin

/-- MAP as the DW = 16 bits that hold it (exact under 00_scope.md R7). -/
def mapDuty (p : Params) (raw : Byte) : Ticks := BitVec.ofNat 16 (mapByte p raw)

/-! ## Stored formats (30_encoding.md R53, R54) -/

/-- An entry as the 20-bit element `{channel[3:0], duty[15:0]}`. -/
def Entry.pack (e : Entry) : BitVec 20 := BitVec.ofNat 4 e.channel.val ++ e.duty

/-- The entry a 20-bit element holds; none for the channel numbers 12 to 15, which never occur. -/
def Entry.unpack (bits : BitVec 20) : Option Entry :=
  let channel := (bits.extractLsb' 16 4).toNat
  if h : channel < N then some ⟨⟨channel, h⟩, bits.extractLsb' 0 16⟩ else none

/-- The 2-bit encoding of `bus_state`. -/
def BusState.code : BusState → BitVec 2
  | .idle => 0b00
  | .receiving => 0b01
  | .complete => 0b10
  | .error => 0b11

/-! ## Front and back (10_state.md R15) -/

/-- The front, live schedule: `sched[front_sel]`. -/
def State.front (s : State) : Schedule := if s.frontSel then s.sched1 else s.sched0

/-- The back, staging schedule: `sched[1 - front_sel]`. -/
def State.back (s : State) : Schedule := if s.frontSel then s.sched0 else s.sched1

/-- Writing the back schedule whole. -/
def setBack (sch : Schedule) (s : State) : State :=
  if s.frontSel then { s with sched0 := sch } else { s with sched1 := sch }

/-! ## Register-indexed accesses with post-increment (20_memory.md R31) -/

/-- `raw_duty[idx] <- d; idx <- idx + 1`, for `idx < N`. -/
def storeRaw (d : Ticks) (s : State) (h : s.idx.val < N) : State :=
  { s with rawDuty := s.rawDuty.set s.idx.val d h, idx := ⟨s.idx.val + 1, Nat.succ_lt_succ h⟩ }

/-- `next_index <- next_index + 1`: it saturates at `N` (10_state.md R27), where COMPARE_MATCH never advances it (R96). -/
def advanceCursor (s : State) : State :=
  { s with nextIndex := ⟨min (s.nextIndex.val + 1) N, Nat.lt_succ_of_le (Nat.min_le_right _ _)⟩ }

/-- `idx <- 0`, the restart of a transaction (10_state.md R12). -/
def clearIdx (s : State) : State := { s with idx := 0 }

/-- `next_index <- 0`, the start of a frame (43_pulse_engine.md R92). -/
def rewindCursor (s : State) : State := { s with nextIndex := 0 }

/-! ## Output ports (30_encoding.md R46, R51, R59) -/

/-- `bus_ack`. -/
def State.busAck (s : State) : Bool := decide (s.resp = some .ack)

/-- `bus_reset`. -/
def State.busReset (s : State) : Bool := decide (s.resp = some .busReset)

/-- `out[N-1:0]`: bit `c` of the port is `out[c]`. -/
def State.outPort (s : State) : BitVec N := BitVec.ofFnLE fun c => s.out[c]

end Sys2Proof.Machine
end

