-- ==== Sys2Proof/Machine/Flags.lean ====
section
/-! DEFINITION. The flags of the block and what sets and clears them (10_state.md R26): `update_pending` with `front_sel`,
the `N` bits of `out`, and the two hits a TICK raises (30_encoding.md R55). -/

namespace Sys2Proof.Machine

/-- PUBLISH (41_schedule_build.md R82). -/
def publish (s : State) : State := { s with updatePending := true }

/-- SWAP (42_schedule_swap.md R86): test, inversion and clear are one action. -/
def swap (s : State) : State :=
  if s.updatePending then { s with frontSel := !s.frontSel, updatePending := false } else s

/-- All `N` outputs to the active level at once (43_pulse_engine.md R92). -/
def raiseOutputs (s : State) : State := { s with out := Vector.replicate N true }

/-- One output to the inactive level (43_pulse_engine.md R93). -/
def deactivate (channel : Fin N) (s : State) : State := { s with out := s.out.set channel.val false }

/-- `ovf_hit`: the TICK finds `TCNT = FRAME_TICKS - 1` and so wraps it (30_encoding.md R55). -/
def ovfHit (p : Params) (s : State) : Bool := decide (s.tcnt.toNat = p.frameTicks - 1)

/-- `cmp_hit`: `TCNT = OCR`, evaluated after the advance and after FRAME_START (30_encoding.md R55, 43_pulse_engine.md R91). -/
def cmpHit (s : State) : Bool := decide (s.tcnt = s.ocr)

end Sys2Proof.Machine
end

