-- ==== Sys2Proof/Machine/Ops.lean ====
section
/-! DEFINITION. The named operations the meanings share: the response, the error path (the only exception the block has),
SORT, FRAME_START, COMPARE_MATCH and the count of TICK. -/

namespace Sys2Proof.Machine

/-! ## The response (30_encoding.md R51) -/

/-- `resp <- r`, or no response: outside the servicing of a bus event both outputs are 0. -/
def respond (r : Option Response) (s : State) : State := { s with resp := r }

/-- `bus_state <- b`, the control transfer of the block (00_scope.md section 5). -/
def setBusState (b : BusState) (s : State) : State := { s with busState := b }

/-! ## Taking an exception, and the return from it (60_exceptions.md R106, R112, R113) -/

/-- The two error classes. -/
inductive ErrorClass where
  /-- Class 1, an unexpected status code, or a DATA or STOP outside a transaction. -/
  | busError (status : Status)
  /-- Class 2, a data byte when the buffer is full. -/
  | overflow
deriving DecidableEq, Repr

/-- The return "to unaddressed listening state", the last step of ABORT: there is no return operation. -/
def returnToListening (s : State) : State := setBusState .idle s

/-- ABORT (40_bus_transaction.md R71): `bus_state` passes through ERROR, the response is BUS_RESET, nothing else changes. -/
def abort (s : State) : State := returnToListening (respond (some .busReset) (setBusState .error s))

/-- Raising either class performs ABORT and ends the operation. The class is recorded nowhere (60_exceptions.md R107). -/
def raiseError (_ : ErrorClass) (s : State) : State := abort s

/-! ## SORT (41_schedule_build.md R79) -/

/-- The inner loop of SORT from position `j` on: shift right every entry whose duty is above the new one's, then insert. -/
def shiftInsert (e : Entry) : (j : Nat) → j < N → Schedule → Schedule
  | 0, h, b => b.set 0 e h
  | j + 1, h, b =>
    if e.duty.toNat < b[j].duty.toNat then shiftInsert e j (Nat.lt_of_succ_lt h) (b.set (j + 1) b[j] h)
    else b.set (j + 1) e h

/-- The outer loop of SORT for the channels below `n`, in channel order. -/
def sortUpTo (raw : Vector Ticks N) : (n : Nat) → n ≤ N → Schedule → Schedule
  | 0, _, b => b
  | n + 1, h, b => shiftInsert ⟨⟨n, h⟩, raw[n]⟩ n h (sortUpTo raw n (Nat.le_of_succ_le h) b)

/-- The schedule SORT makes of `raw_duty` in a buffer that held `b`. -/
def sortSchedule (raw : Vector Ticks N) (b : Schedule) : Schedule := sortUpTo raw N (Nat.le_refl N) b

/-- SORT: it writes the back buffer, selected by the `front_sel` of this operation (R81), and nothing else. -/
def sortBack (s : State) : State := setBack (sortSchedule s.rawDuty s.back) s

/-! ## The bus operations (40_bus_transaction.md R65 to R70) -/

/-- ADDR_W (R65). -/
def startTransaction (s : State) : State := respond (some .ack) (clearIdx (setBusState .receiving s))

/-- DATA: accepted (R66), overflow (R67), or unexpected (R70).
"DATA or STOP while not receiving" is unexpected (decision D8), so COMPLETE and ERROR, which no run reaches between
operations, take the same path as IDLE. DESIGN CHOICE for those two states only (log 8). -/
def dataByte (p : Params) (raw : Byte) (s : State) : State :=
  if s.busState = .receiving then
    if h : s.idx.val < N then respond (some .ack) (storeRaw (mapDuty p raw) s h)
    else raiseError .overflow s
  else raiseError (.busError p.scData) s

/-- STOP: sort and publish (R68), or unexpected (R70). -/
def stopTransaction (p : Params) (s : State) : State :=
  if s.busState = .receiving then
    returnToListening (respond (some .ack) (publish (sortBack (setBusState .complete s))))
  else raiseError (.busError p.scStop) s

/-! ## FRAME_START (43_pulse_engine.md R92) -/

/-- `OCR <- d`. -/
def arm (d : Ticks) (s : State) : State := { s with ocr := d }

/-- The outputs, the swap, the cursor, and the compare register from the front schedule after the swap. -/
def frameStart (s : State) : State :=
  let s1 := rewindCursor (swap (raiseOutputs s))
  arm s1.front[0].duty s1

/-! ## COMPARE_MATCH (43_pulse_engine.md R93 to R96) -/

/-- The loop of COMPARE_MATCH with the cached counter value `t`. One iteration deactivates one output; `fuel` bounds the
iterations, and `N` of them are always enough. With `next_index = N` nothing changes (R96). -/
def walk (p : Params) : (fuel : Nat) → (t : Nat) → State → State
  | 0, _, s => s
  | fuel + 1, t, s =>
    if h : s.nextIndex.val < N then
      let s1 := advanceCursor (deactivate s.front[s.nextIndex.val].channel s)
      let t1 := t + p.margin
      if h1 : s1.nextIndex.val < N then
        if s1.front[s1.nextIndex.val].duty.toNat ≤ t1 then walk p fuel t1 s1
        else arm s1.front[s1.nextIndex.val].duty s1
      else s1
    else s

/-- COMPARE_MATCH(t0), for any `t0` (R97). -/
def compareMatch (p : Params) (t0 : Nat) (s : State) : State := walk p N t0 s

/-! ## TICK (43_pulse_engine.md R91) -/

/-- `TCNT <- c`. -/
def setTcnt (c : Ticks) (s : State) : State := { s with tcnt := c }

/-- The advance of the counter, with FRAME_START when it wraps. A count at or above `FRAME_TICKS`, which no run reaches,
goes on modulo 2^16. DESIGN CHOICE for those counts only (log 9). -/
def advance (p : Params) (s : State) : State :=
  if ovfHit p s then frameStart (setTcnt 0 s) else setTcnt (s.tcnt + 1) s

/-- TICK: the advance, then the compare with the new `TCNT` and the new `OCR`. -/
def countTick (p : Params) (s : State) : State :=
  let s1 := advance p s
  if cmpHit s1 then compareMatch p s1.tcnt.toNat s1 else s1

end Sys2Proof.Machine
end

