-- ==== Sys2Proof/Machine/Bus.lean ====
section
/-! DEFINITION. The meanings of the bus family: ADDR_W, DATA, STOP, BUS_ERR (40_bus_transaction.md). -/

namespace Sys2Proof.Machine

/-- ADDR_W (R65; in RECEIVING a restart, R74). -/
def execAddrW (s : State) : Host.Outcome State Fault Refusal := .next (startTransaction s)

/-- DATA (R66, R67, R70). -/
def execData (raw : Byte) (s : State) : Host.Outcome State Fault Refusal := .next (dataByte Config.params raw s)

/-- STOP (R68, R70, R73). -/
def execStop (s : State) : Host.Outcome State Fault Refusal := .next (stopTransaction Config.params s)

/-- BUS_ERR (R69). -/
def execBusErr (status : Status) (s : State) : Host.Outcome State Fault Refusal :=
  .next (raiseError (.busError status) s)

end Sys2Proof.Machine
end

