-- ==== Sys2Proof/Machine/Engine.lean ====
section
/-! DEFINITION. The meanings of the timer family: TICK and its two internal events FRAME_START and COMPARE_MATCH
(43_pulse_engine.md). None is a bus event, so both response outputs are 0 (30_encoding.md R51). -/

namespace Sys2Proof.Machine

/-- TICK (R91). -/
def execTick (s : State) : Host.Outcome State Fault Refusal := .next (countTick Config.params (respond none s))

/-- FRAME_START as an event of its own (R92). -/
def execFrameStart (s : State) : Host.Outcome State Fault Refusal := .next (frameStart (respond none s))

/-- COMPARE_MATCH as an event of its own, with `t0` the value of `TCNT` at entry (R93, 30_encoding.md R55; log 12). -/
def execCompareMatch (s : State) : Host.Outcome State Fault Refusal :=
  .next (compareMatch Config.params s.tcnt.toNat (respond none s))

end Sys2Proof.Machine
end

