-- ==== Sys2Proof/Machine/Reset.lean ====
section
/-! DEFINITION. The meaning of RESET (70_reset_and_hazards.md R124). -/

namespace Sys2Proof.Machine

/-- RESET: every element to its reset value. What the outside has still to deliver is no state of the block and is kept.
DESIGN CHOICE (log 1); safe. -/
def execReset (s : State) : Host.Outcome State Fault Refusal :=
  .next { State.resetWith Config.params with inputs := s.inputs }

end Sys2Proof.Machine
end

