-- ==== Sys2Proof/Machine/Dispatch.lean ====
section
/-! DEFINITION. One arm per event. -/

namespace Sys2Proof.Machine

def exec (i : Instr) (s : State) : Host.Outcome State Fault Refusal :=
  match i with
  | .reset => Sys2Proof.Machine.execReset s
  | .tick => Sys2Proof.Machine.execTick s
  | .addrW => Sys2Proof.Machine.execAddrW s
  | .data raw => Sys2Proof.Machine.execData raw s
  | .stop => Sys2Proof.Machine.execStop s
  | .busErr status => Sys2Proof.Machine.execBusErr status s
  | .frameStart => Sys2Proof.Machine.execFrameStart s
  | .compareMatch => Sys2Proof.Machine.execCompareMatch s

end Sys2Proof.Machine
end

