-- ==== Sys2Proof/Machine/Fetch.lean ====
section
/-! DEFINITION. Where the next event comes from: the internal timer event vector while it holds one, else the next port
sample. At most one event is taken; the rest of a sample stays for the next step. -/

namespace Sys2Proof.Machine

/-- A sample with every port at 0. -/
def PortSample.quiet : PortSample := ⟨false, false, false, 0, 0, false⟩

/-- The word a sample gives the block first, and what is left of the sample. RESET overrides everything: while `rst` is 1 no
other event is serviced (60_exceptions.md R111; log 14). Of a coinciding bus event and TICK either may be first
(20_memory.md R44; log 2). -/
def PortSample.take (x : PortSample) : Option PortWord × Option PortSample :=
  if x.rst then (some (.rst 1), none)
  else if x.tick then
    if x.busEvValid then
      if x.busFirst then (some (.bus (busWord x.busStatus x.busData)), some { x with busEvValid := false })
      else (some (.tick 1), some { x with tick := false })
    else (some (.tick 1), none)
  else if x.busEvValid then (some (.bus (busWord x.busStatus x.busData)), none)
  else (none, none)

/-- The event word of this step, if there is one, and the state with that delivery consumed. -/
def fetch (s : State) : Option PortWord × State :=
  if s.tev = 0 then
    match s.inputs with
    | [] => (none, s)
    | x :: rest => (x.take.1, { s with inputs := x.take.2.toList ++ rest })
  else
    (some (.tmr s.tev), { s with tev := if s.tev.getLsbD 0 then s.tev &&& 0b10 else 0 })

/-- `s` with one event word placed to be fetched next. -/
def placeWord (word : Option PortWord) (s : State) : State :=
  match word with
  | none => { s with tev := 0, inputs := PortSample.quiet :: s.inputs }
  | some (.rst level) =>
    { s with tev := 0, inputs := { PortSample.quiet with rst := decide (level = 1) } :: s.inputs }
  | some (.tick level) =>
    { s with tev := 0, inputs := { PortSample.quiet with tick := decide (level = 1) } :: s.inputs }
  | some (.bus bev) =>
    { s with
      tev := 0
      inputs := { PortSample.quiet with busEvValid := true, busStatus := busStatusOf bev, busData := busDataOf bev }
        :: s.inputs }
  | some (.tmr tev) => { s with tev := tev }

end Sys2Proof.Machine
end

