-- ==== Sys2Proof/Machine/Step.lean ====
section
/-! DEFINITION. One step: take the next event and service it to completion (00_scope.md R8, 20_memory.md R35). -/

namespace Sys2Proof.Machine

/-- One step. With no event delivered nothing happens in the block, and both response outputs are 0 (30_encoding.md R51). -/
def step (s : State) : Host.Outcome State Fault Refusal :=
  match fetch s with
  | (none, s1) => .next (respond none s1)
  | (some word, s1) =>
    match decode word with
    | .ok i => exec i s1
    | .error why => .refused (.undecodable why)

/-- `s` with the table word placed where `step` fetches its next event: on the internal timer event vector for a TMR word,
else as the next port sample (log 1, log 5). -/
def State.withFetchWord (s : State) (nbits w : Nat) : State := placeWord (tableWord nbits w) s

end Sys2Proof.Machine
end

