-- ==== Sys2Proof/Safety.lean ====
section
/-! DEFINITION. The terms claims are made in: what a legal schedule and a sane state are (10_state.md R23, 43_pulse_engine.md
R98), the waveform of a frame (R100), and sequences of events (20_memory.md R36). -/

namespace Sys2Proof.Machine

/-! ## Schedules (10_state.md R23, 41_schedule_build.md R80) -/

/-- Each channel is in exactly one entry. -/
abbrev Complete (sch : Schedule) : Prop :=
  ∀ c : Fin N, ∃ k : Fin N, sch[k].channel = c ∧ ∀ j : Fin N, sch[j].channel = c → j = k

/-- The duties are non-decreasing. -/
abbrev SortedByDuty (sch : Schedule) : Prop :=
  ∀ j k : Fin N, j ≤ k → sch[j].duty.toNat ≤ sch[k].duty.toNat

/-- A duty in `[DUTY_MIN, DUTY_MAX]`. -/
abbrev DutyInRange (p : Params) (d : Ticks) : Prop := p.dutyMin ≤ d.toNat ∧ d.toNat ≤ p.dutyMax

/-- A complete, sorted schedule with every duty in range. -/
abbrev ScheduleOk (p : Params) (sch : Schedule) : Prop :=
  Complete sch ∧ SortedByDuty sch ∧ ∀ k : Fin N, DutyInRange p sch[k].duty

/-- The order SORT arranges entries in: by duty, and by channel number among equal duties. -/
abbrev Entry.Before (e f : Entry) : Prop :=
  e.duty.toNat < f.duty.toNat ∨ (e.duty = f.duty ∧ e.channel < f.channel)

/-- `sch` is the arrangement of the `N` pairs (channel i, `raw[i]`) in that order (41_schedule_build.md R80). -/
abbrev IsStableSort (raw : Vector Ticks N) (sch : Schedule) : Prop :=
  (∀ i : Fin N, ∃ k : Fin N, sch[k] = ⟨i, raw[i]⟩) ∧ ∀ j k : Fin N, j < k → sch[j].Before sch[k]

/-! ## The state between operations -/

/-- Between operations `bus_state` is only ever IDLE or RECEIVING (10_state.md R11). -/
abbrev Settled (s : State) : Prop := s.busState = .idle ∨ s.busState = .receiving

/-- The engine between operations (43_pulse_engine.md R98): the counter is inside the frame; while an entry is still to be
served the compare register is armed with its duty, ahead of the counter; and exactly the outputs of the entries not yet
served are active. -/
abbrev EngineOk (p : Params) (s : State) : Prop :=
  s.tcnt.toNat < p.frameTicks ∧
  (∀ k : Fin N, k.val = s.nextIndex.val → s.ocr = s.front[k].duty ∧ s.tcnt.toNat < s.ocr.toNat) ∧
  ∀ k : Fin N, s.out[s.front[k].channel] = decide (s.nextIndex.val ≤ k.val)

/-- The invariant of the machine between operations. -/
abbrev Inv (p : Params) (s : State) : Prop :=
  s.tev = 0 ∧ Settled s ∧ (∀ i : Fin N, DutyInRange p s.rawDuty[i]) ∧
  ScheduleOk p s.sched0 ∧ ScheduleOk p s.sched1 ∧ EngineOk p s

/-! ## The waveform of a frame (43_pulse_engine.md R100) -/

/-- The head of the group of entry `m`: the entry whose threshold the outputs of the group fall at. A group takes in the
next entry `q` as long as `d_q <= d_k + (q - k) * MARGIN`, with `k` its head. -/
def groupHead (margin : Nat) (sch : Schedule) : (m : Nat) → m < N → Fin N
  | 0, h => ⟨0, h⟩
  | m + 1, h =>
    let k := groupHead margin sch m (Nat.lt_of_succ_lt h)
    if sch[m + 1].duty.toNat ≤ sch[k].duty.toNat + (m + 1 - k.val) * margin then k else ⟨m + 1, h⟩

/-- The duty at which the output of entry `m` falls. -/
abbrev fallTime (margin : Nat) (sch : Schedule) (m : Fin N) : Nat :=
  sch[groupHead margin sch m.val m.isLt].duty.toNat

/-- At every count of the frame, the output of every entry of the front schedule is active exactly before its fall. -/
abbrev WaveOk (p : Params) (s : State) : Prop :=
  ∀ m : Fin N, s.out[s.front[m].channel] = decide (s.tcnt.toNat < fallTime p.margin s.front m)

/-! ## Which side an event belongs to (60_exceptions.md R116) -/

/-- The bus side. -/
def isBus : Instr → Bool
  | .reset => false
  | .tick => false
  | .addrW => true
  | .data _ => true
  | .stop => true
  | .busErr _ => true
  | .frameStart => false
  | .compareMatch => false

/-- The timer side. -/
def isTimer : Instr → Bool
  | .reset => false
  | .tick => true
  | .addrW => false
  | .data _ => false
  | .stop => false
  | .busErr _ => false
  | .frameStart => true
  | .compareMatch => true

/-- The event starts a frame: FRAME_START itself, or the TICK that wraps the counter. -/
abbrev StartsFrame (i : Instr) (s : State) : Prop :=
  i = .frameStart ∨ (i = .tick ∧ ovfHit Config.params s = true)

/-! ## Sequences of events (20_memory.md R36; the notation of 30_encoding.md R58) -/

/-- The events of a list serviced one after the other, each on the state the previous one left. -/
def service : List Instr → State → Host.Outcome State Fault Refusal
  | [], s => .next s
  | i :: rest, s =>
    match exec i s with
    | .next t => service rest t
    | .fault r => .fault r
    | .refused r => .refused r

/-- `TXN b0 b1 ... bk`: ADDR_W, one DATA per byte, STOP. -/
def transaction (bytes : List Byte) : List Instr := .addrW :: (bytes.map .data ++ [.stop])

/-- `TICK n`. -/
def ticks (n : Nat) : List Instr := List.replicate n .tick

end Sys2Proof.Machine
end

