-- ==== Sys2Proof/Certificates/Slice0/Obligations.lean ====
section
/-! DEFINITION. The statements about the model, for the provers. Each docstring names the rule of spec/ it formalises, and the
decision D<n> of the spec or the log entry it rests on where it does. -/

open Sys2Proof Sys2Proof.Machine

/-! ## Reset -/

/-- 10_state.md R28: the reset value of every element of state (the spec's decision D16, at the parameters of R6). -/
def Obligations.ResetStateHasTheSpecValues : Prop :=
  State.reset.busState = .idle ∧ State.reset.idx.val = 0 ∧ (∀ i : Fin N, State.reset.rawDuty[i] = 1000) ∧
  (∀ k : Fin N, State.reset.sched0[k] = ⟨k, 1000⟩ ∧ State.reset.sched1[k] = ⟨k, 1000⟩) ∧
  State.reset.frontSel = false ∧ State.reset.updatePending = false ∧ State.reset.nextIndex.val = N ∧
  State.reset.tcnt = 0 ∧ State.reset.ocr = 0 ∧ ∀ c : Fin N, State.reset.out[c] = false

/-- 70_reset_and_hazards.md R124: RESET gives the reset state from any state (decision D16). What the outside has still to
deliver is no state of the block and is kept (log 1). -/
def Obligations.ResetEventRestoresTheResetState : Prop :=
  ∀ s : State, exec .reset s = .next { State.reset with inputs := s.inputs }

/-- 70_reset_and_hazards.md R125: from reset, 19999 ticks only count, and the 20000th starts the first frame with every output
active and the compare register at DUTY_MIN. It rests on the spec's reset values (decision D16, log 11), on its tick, counter
and service timing (decisions D5, D14; log 7, log 15) and on DUTY_MIN = 1000 (decision D4, log 7). -/
def Obligations.FirstFrameStartsAfterTwentyThousandTicks : Prop :=
  (∀ n : Nat, n ≤ 19999 →
    service (ticks n) State.reset = .next { State.reset with tcnt := BitVec.ofNat 16 n }) ∧
  ∃ t, service (ticks 20000) State.reset = .next t ∧ (∀ c : Fin N, t.out[c] = true) ∧ t.tcnt = 0 ∧ t.ocr = 1000 ∧
    t.nextIndex.val = 0 ∧ t.frontSel = false

/-! ## The bus operations -/

/-- 40_bus_transaction.md R65: ADDR_W, whatever its code SC_ADDR_W is and whatever its data field, writes `bus_state` and `idx`,
answers ACK, in every state. -/
def Obligations.AddrWStartsATransaction : Prop :=
  (∀ (p : Params) (d : Byte), decodeWith p (.bus (busWord p.scAddrW d)) = .ok .addrW) ∧
  ∀ s : State, exec .addrW s = .next { s with busState := .receiving, idx := 0, resp := some .ack }

/-- 40_bus_transaction.md R66: an accepted byte is mapped and stored at `raw_duty[idx]`, `idx` advances, the answer is ACK, and
nothing else changes. -/
def Obligations.AcceptedByteIsMappedAndStored : Prop :=
  (∀ raw : Byte, decode (.bus (busWord 0x80 raw)) = .ok (.data raw)) ∧
  ∀ (s : State) (raw : Byte) (h : s.idx.val < N), s.busState = .receiving →
    exec (.data raw) s = .next { s with
      rawDuty := s.rawDuty.set s.idx.val (BitVec.ofNat 16 (raw.toNat * 1000 / 255 + 1000)) h
      idx := ⟨s.idx.val + 1, Nat.succ_lt_succ h⟩
      resp := some .ack }

/-- 40_bus_transaction.md R67: the byte after the N-th aborts the transaction and is dropped (decision D7). -/
def Obligations.OverflowingByteAborts : Prop :=
  ∀ (s : State) (raw : Byte), s.busState = .receiving → s.idx.val = N →
    exec (.data raw) s = .next { s with busState := .idle, resp := some .busReset }

/-- 40_bus_transaction.md R68: STOP in RECEIVING puts the stable sort of `raw_duty` into the back buffer, sets
`update_pending`, answers ACK and returns to IDLE; nothing else changes, whatever `idx`, the code SC_STOP and the data field. -/
def Obligations.StopSortsAndPublishes : Prop :=
  (∀ p : Params, p.Legal → ∀ d : Byte, decodeWith p (.bus (busWord p.scStop d)) = .ok .stop) ∧
  ∀ s : State, s.busState = .receiving →
    ∃ sch : Schedule, IsStableSort s.rawDuty sch ∧
      exec .stop s =
        .next { setBack sch s with updatePending := true, busState := .idle, resp := some .ack }

/-- 40_bus_transaction.md R69: every status code that is none of the three expected ones, whatever these are and whatever the data
field, is BUS_ERR, and it aborts in every state: IDLE, BUS_RESET, nothing else. -/
def Obligations.UnexpectedStatusAborts : Prop :=
  (∀ (p : Params) (status : Status), status ≠ p.scAddrW → status ≠ p.scData → status ≠ p.scStop →
    ∀ d : Byte, decodeWith p (.bus (busWord status d)) = .ok (.busErr status)) ∧
  ∀ (status : Status) (s : State), exec (.busErr status) s = .next { s with busState := .idle, resp := some .busReset }

/-- 40_bus_transaction.md R70: DATA or STOP in IDLE changes no element of state and answers BUS_RESET (decision D8). -/
def Obligations.DataAndStopOutsideATransactionDoNothing : Prop :=
  ∀ (s : State) (raw : Byte), s.busState = .idle →
    exec (.data raw) s = .next { s with resp := some .busReset } ∧
    exec .stop s = .next { s with resp := some .busReset }

/-- 40_bus_transaction.md R71: ABORT, of either error class, writes `bus_state` only and answers BUS_RESET. -/
def Obligations.RaisingAnErrorWritesBusStateOnly : Prop :=
  ∀ (c : ErrorClass) (s : State), raiseError c s = { s with busState := .idle, resp := some .busReset }

/-- 30_encoding.md R51: a bus event answers exactly one of ACK and BUS_RESET, ACK exactly when it is an ADDR_W, an accepted
DATA or a STOP in RECEIVING; no other event answers (decision D2; the response is held by the model, log 4). -/
def Obligations.EveryBusEventAnswersExactlyOnce : Prop :=
  ∀ (i : Instr) (s t : State), exec i s = .next t →
    (t.busAck = true ↔ i = .addrW ∨ (s.busState = .receiving ∧ (i = .stop ∨ (s.idx.val < N ∧ ∃ raw, i = .data raw)))) ∧
    (t.busReset = true ↔ isBus i = true ∧ t.busAck = false)

/-! ## Building a schedule -/

/-- 41_schedule_build.md R78, for every legal parameter set: the endpoints, monotonicity, range, the DW bits hold every result,
and the map is strictly increasing when the span is at least 255. -/
def Obligations.MapIsMonotoneOntoTheDutyRange : Prop :=
  ∀ p : Params, p.Legal →
    mapByte p 0 = p.dutyMin ∧ mapByte p 255 = p.dutyMax ∧
    (∀ a b : Byte, a.toNat ≤ b.toNat → mapByte p a ≤ mapByte p b) ∧
    (∀ a : Byte, DutyInRange p (mapDuty p a) ∧ (mapDuty p a).toNat = mapByte p a) ∧
    (255 ≤ p.dutyMax - p.dutyMin → ∀ a b : Byte, a.toNat < b.toNat → mapByte p a < mapByte p b)

/-- 41_schedule_build.md R76, R77: MAP by its defining property: the quotient `q = MAP(raw) - DUTY_MIN` is the floor of the
full product over 255. -/
def Obligations.MapRoundsTheFullProductDown : Prop :=
  ∀ p : Params, p.Legal → ∀ raw : Byte,
    p.dutyMin ≤ mapByte p raw ∧
    (mapByte p raw - p.dutyMin) * 255 ≤ raw.toNat * (p.dutyMax - p.dutyMin) ∧
    raw.toNat * (p.dutyMax - p.dutyMin) < (mapByte p raw - p.dutyMin + 1) * 255

/-- 41_schedule_build.md R79, R80: SORT leaves the N pairs (channel, duty) in ascending order of duty, then channel, whatever the
buffer held; it writes them to the back buffer and writes nothing else. -/
def Obligations.SortMakesTheStableArrangement : Prop :=
  (∀ (raw : Vector Ticks N) (b : Schedule), IsStableSort raw (sortSchedule raw b)) ∧
  ∀ s : State, ∃ sch : Schedule, IsStableSort s.rawDuty sch ∧ sortBack s = setBack sch s ∧
    (sortBack s).back = sch ∧ (sortBack s).front = s.front

/-- 41_schedule_build.md R80: that arrangement is unique. -/
def Obligations.StableArrangementIsUnique : Prop :=
  ∀ (raw : Vector Ticks N) (x y : Schedule), IsStableSort raw x → IsStableSort raw y → x = y

/-- 41_schedule_build.md R80: such an arrangement is complete and sorted, with its duties those of `raw_duty`. -/
def Obligations.StableArrangementIsCompleteAndSorted : Prop :=
  ∀ (raw : Vector Ticks N) (x : Schedule), IsStableSort raw x →
    Complete x ∧ SortedByDuty x ∧ ∀ k : Fin N, x[k].duty = raw[x[k].channel]

/-! ## Transactions -/

/-- 41_schedule_build.md R84: from any state, a transaction of N bytes publishes a schedule with exactly one entry per channel,
non-decreasing by duty, the entry of channel i with the mapped duty of byte i; entry 0 is the lowest channel among those with
the smallest byte and entry N - 1 the highest among those with the largest. The front and the timer side are untouched. -/
def Obligations.WellFormedTransactionPublishes : Prop :=
  ∀ (s : State) (bytes : Vector Byte N), ∃ t,
    service (transaction bytes.toList) s = .next t ∧
    Complete t.back ∧ SortedByDuty t.back ∧
    (∀ k : Fin N, t.back[k].duty = mapDuty Config.params bytes[t.back[k].channel]) ∧
    (∀ c : Fin N, bytes[t.back[(0 : Fin N)].channel].toNat < bytes[c].toNat ∨
      (bytes[t.back[(0 : Fin N)].channel] = bytes[c] ∧ t.back[(0 : Fin N)].channel ≤ c)) ∧
    (∀ c : Fin N, bytes[c].toNat < bytes[t.back[(11 : Fin N)].channel].toNat ∨
      (bytes[c] = bytes[t.back[(11 : Fin N)].channel] ∧ c ≤ t.back[(11 : Fin N)].channel)) ∧
    t.updatePending = true ∧ t.busState = .idle ∧ t.idx.val = N ∧ t.resp = some .ack ∧
    t.front = s.front ∧ t.frontSel = s.frontSel ∧
    t.nextIndex = s.nextIndex ∧ t.tcnt = s.tcnt ∧ t.ocr = s.ocr ∧ t.out = s.out

/-- 40_bus_transaction.md R73: a short transaction publishes too; the channels it did not write keep what `raw_duty` held
(decision D9). -/
def Obligations.ShortTransactionKeepsTheOtherDuties : Prop :=
  ∀ (s : State) (bytes : List Byte), bytes.length ≤ N → ∃ t,
    service (transaction bytes) s = .next t ∧ t.updatePending = true ∧ t.busState = .idle ∧ t.front = s.front ∧
    t.idx.val = bytes.length ∧ IsStableSort t.rawDuty t.back ∧
    ∀ i : Fin N, t.rawDuty[i] =
      match bytes[i.val]? with
      | some raw => mapDuty Config.params raw
      | none => s.rawDuty[i]

/-- 40_bus_transaction.md R67, R57: a transaction of more than N bytes publishes nothing and ends in IDLE (decision D7). -/
def Obligations.OverlongTransactionPublishesNothing : Prop :=
  ∀ (s : State) (bytes : List Byte), N < bytes.length → ∃ t,
    service (transaction bytes) s = .next t ∧ t.busState = .idle ∧ t.idx.val = N ∧ t.resp = some .busReset ∧
    t.sched0 = s.sched0 ∧ t.sched1 = s.sched1 ∧ t.frontSel = s.frontSel ∧ t.updatePending = s.updatePending ∧
    ∀ i : Fin N, some t.rawDuty[i] = (bytes[i.val]?).map (mapDuty Config.params)

/-- 41_schedule_build.md R83: the schedule a transaction of N bytes builds depends on its bytes alone. -/
def Obligations.RepublishingIsIdempotent : Prop :=
  ∀ (s s' t t' : State) (bytes : List Byte), bytes.length = N →
    service (transaction bytes) s = .next t → service (transaction bytes) s' = .next t' → t.back = t'.back

/-- 40_bus_transaction.md R72: without a STOP, no sequence of bus events changes a schedule, `front_sel`, `update_pending` or
anything of the timer side. -/
def Obligations.NothingIsPublishedWithoutAStop : Prop :=
  ∀ (events : List Instr) (s : State), (∀ i ∈ events, isBus i = true ∧ i ≠ .stop) → ∃ t,
    service events s = .next t ∧
    t.sched0 = s.sched0 ∧ t.sched1 = s.sched1 ∧ t.frontSel = s.frontSel ∧ t.updatePending = s.updatePending ∧
    t.nextIndex = s.nextIndex ∧ t.tcnt = s.tcnt ∧ t.ocr = s.ocr ∧ t.out = s.out

/-- 20_memory.md R42: a second transaction of N bytes before a SWAP replaces the first in the same buffer, as if it had been
sent alone. -/
def Obligations.UnadoptedPublishIsSuperseded : Prop :=
  ∀ (s t t' : State) (first second : List Byte), first.length = N → second.length = N →
    service (transaction first ++ transaction second) s = .next t → service (transaction second) s = .next t' →
    t = t'

/-! ## Publish and swap -/

/-- 42_schedule_swap.md R86: SWAP, when an update is pending, inverts `front_sel` and clears the flag; else nothing. -/
def Obligations.SwapAdoptsAPendingUpdate : Prop :=
  ∀ s : State,
    (s.updatePending = true → swap s = { s with frontSel := !s.frontSel, updatePending := false }) ∧
    (s.updatePending = false → swap s = s)

/-- 42_schedule_swap.md R88: SWAP exchanges roles, never contents: both instances keep their entries, and when it swapped the new
back is, entry for entry, the old front; it stays so until the next STOP in RECEIVING (or RESET) overwrites it: no other event
changes an entry of either instance. -/
def Obligations.SwapExchangesRolesNotContents : Prop :=
  (∀ s : State, (swap s).sched0 = s.sched0 ∧ (swap s).sched1 = s.sched1 ∧
    (s.updatePending = true → (swap s).front = s.back ∧ (swap s).back = s.front)) ∧
  ∀ (i : Instr) (s t : State), exec i s = .next t → i ≠ .reset → ¬(i = .stop ∧ s.busState = .receiving) →
    t.sched0 = s.sched0 ∧ t.sched1 = s.sched1

/-- 10_state.md R16, R26: only a STOP in RECEIVING sets `update_pending`; only a frame start (or RESET) clears it. -/
def Obligations.OnlyStopSetsAndOnlyAFrameStartClearsPending : Prop :=
  ∀ (i : Instr) (s t : State), exec i s = .next t →
    (s.updatePending = false → t.updatePending = true → i = .stop ∧ s.busState = .receiving) ∧
    (s.updatePending = true → t.updatePending = false → i = .reset ∨ StartsFrame i s)

/-- 42_schedule_swap.md R87, 20_memory.md R39: the front schedule and `front_sel` are constant from one frame start to the next. -/
def Obligations.FrontChangesOnlyAtAFrameStart : Prop :=
  ∀ (i : Instr) (s t : State), exec i s = .next t → i ≠ .reset → ¬StartsFrame i s →
    t.frontSel = s.frontSel ∧ t.front = s.front

/-! ## The engine -/

/-- 43_pulse_engine.md R91: the four cases of a TICK: it only counts; it reaches the compare register and serves the match with
t0 = TCNT; it wraps and starts a frame; and, with a first duty of 0, which the parameters exclude, it does both
(decisions D5, D14). For a count of 20000 or more, which no run reaches and R91 does not speak of, the first two cases say what
the model chose: it counts on modulo 2^16 (log 9). -/
def Obligations.TickCountsAndServesItsEvents : Prop :=
  ∀ s : State,
    (s.tcnt.toNat ≠ 19999 → s.tcnt + 1 ≠ s.ocr →
      exec .tick s = .next { s with tcnt := s.tcnt + 1, resp := none }) ∧
    (s.tcnt.toNat ≠ 19999 → s.tcnt + 1 = s.ocr →
      exec .tick s = exec .compareMatch { s with tcnt := s.tcnt + 1 }) ∧
    (s.tcnt.toNat = 19999 → (if s.updatePending then s.back else s.front)[0].duty ≠ 0 →
      exec .tick s = exec .frameStart { s with tcnt := 0 }) ∧
    (s.tcnt.toNat = 19999 → (if s.updatePending then s.back else s.front)[0].duty = 0 →
      ∃ t, exec .frameStart { s with tcnt := 0 } = .next t ∧ exec .tick s = exec .compareMatch t)

/-- 43_pulse_engine.md R92: FRAME_START sets every output, performs SWAP, resets `next_index`, programs the compare register from
the first entry of the front schedule after the swap, and writes nothing else; the wrap of the counter performs it. -/
def Obligations.FrameStartBeginsTheFrame : Prop :=
  decode (.tmr 0b01) = .ok .frameStart ∧
  (∀ (p : Params) (s : State), s.tcnt.toNat = p.frameTicks - 1 → advance p s = frameStart { s with tcnt := 0 }) ∧
  ∀ s : State, ∃ t, exec .frameStart s = .next t ∧ (∀ c : Fin N, t.out[c] = true) ∧
    t = { s with
      out := t.out
      frontSel := (if s.updatePending then !s.frontSel else s.frontSel)
      updatePending := false
      nextIndex := 0
      ocr := (if s.updatePending then s.back else s.front)[0].duty
      resp := none }

/-- 43_pulse_engine.md R96: a COMPARE_MATCH with nothing left in the frame changes nothing (decision D13). -/
def Obligations.CompareMatchWithNothingLeftDoesNothing : Prop :=
  (∀ (p : Params) (t0 : Nat) (s : State), s.nextIndex.val = N → compareMatch p t0 s = s) ∧
  ∀ s : State, s.nextIndex.val = N → exec .compareMatch s = .next { s with resp := none }

/-- 43_pulse_engine.md R93, R94, R95, for every MARGIN and every sample t0: the invocation serves `m` entries, at least one; each
after the first because its duty was at most the cached counter advanced by MARGIN per entry served; exactly their outputs
fall; it stops at N, leaving the compare register, or at the first entry still in the future, which it arms. -/
def Obligations.CompareMatchServesExactlyTheElapsedEntries : Prop :=
  (∀ s : State, exec .compareMatch s = .next (compareMatch Config.params s.tcnt.toNat { s with resp := none })) ∧
  ∀ (p : Params) (t0 : Nat) (s : State), s.nextIndex.val < N → ∃ (m : Nat) (t : State),
    compareMatch p t0 s = t ∧ 0 < m ∧ t.nextIndex.val = s.nextIndex.val + m ∧
    (∀ q : Fin N, s.nextIndex.val < q.val → q.val < s.nextIndex.val + m →
      s.front[q].duty.toNat ≤ t0 + (q.val - s.nextIndex.val) * p.margin) ∧
    (∀ q : Fin N, q.val = s.nextIndex.val + m →
      t0 + m * p.margin < s.front[q].duty.toNat ∧ t.ocr = s.front[q].duty) ∧
    (t.nextIndex.val = N → t.ocr = s.ocr) ∧
    (∀ c : Fin N, t.out[c] = true ↔ s.out[c] = true ∧
      ∀ q : Fin N, s.nextIndex.val ≤ q.val → q.val < s.nextIndex.val + m → s.front[q].channel ≠ c) ∧
    t = { s with out := t.out, nextIndex := t.nextIndex, ocr := t.ocr }

/-- 43_pulse_engine.md R91: under the invariant no TICK raises both events, because a frame start leaves OCR ahead of TCNT. -/
def Obligations.NoTickRaisesBothEvents : Prop :=
  ∀ s : State, Inv Config.params s → ovfHit Config.params s = true → cmpHit (advance Config.params s) = false

/-- 43_pulse_engine.md R101: between frame starts outputs only fall and the cursor only advances. -/
def Obligations.OutputsOnlyFallWithinAFrame : Prop :=
  ∀ (i : Instr) (s t : State), exec i s = .next t → i ≠ .reset → ¬StartsFrame i s →
    (∀ c : Fin N, t.out[c] = true → s.out[c] = true) ∧ s.nextIndex.val ≤ t.nextIndex.val

/-- 43_pulse_engine.md R99: once the counter has reached the last duty of the front schedule, every entry has been served and
every output is inactive. -/
def Obligations.EveryOutputFallsByTheLastDuty : Prop :=
  ∀ s : State, Inv Config.params s → s.front[(11 : Fin N)].duty.toNat ≤ s.tcnt.toNat →
    s.nextIndex.val = N ∧ ∀ c : Fin N, s.out[c] = false

/-- 43_pulse_engine.md R100: in a sorted schedule an output falls never late and at most (m - k) * MARGIN early, and with
MARGIN = 0 exactly at its duty. -/
def Obligations.FallIsNeverLateAndBoundedlyEarly : Prop :=
  ∀ (margin : Nat) (sch : Schedule), SortedByDuty sch → ∀ m : Fin N,
    (groupHead margin sch m.val m.isLt).val ≤ m.val ∧ fallTime margin sch m ≤ sch[m].duty.toNat ∧
    sch[m].duty.toNat ≤ fallTime margin sch m + (m.val - (groupHead margin sch m.val m.isLt).val) * margin ∧
    (margin = 0 → fallTime margin sch m = sch[m].duty.toNat)

/-- 43_pulse_engine.md R100: the TICK that wraps the counter puts the waveform in place: all outputs active at count 0. -/
def Obligations.WaveformBeginsAtTheWrap : Prop :=
  ∀ s : State, Inv Config.params s → s.tcnt.toNat = 19999 → ∃ t, exec .tick s = .next t ∧ t.tcnt = 0 ∧
    (∀ c : Fin N, t.out[c] = true) ∧ WaveOk Config.params t

/-- 43_pulse_engine.md R100: the output waveform. Once in place, every step that is not a RESET keeps it, whatever bus events
and ticks are delivered and in whatever order: the output of every entry is active exactly while the counter is below the
duty of the head of its group. -/
def Obligations.EveryStepKeepsTheWaveform : Prop :=
  ∀ s t : State, Inv Config.params s → WaveOk Config.params s → (∀ x ∈ s.inputs.head?, x.rst = false) →
    step s = .next t → WaveOk Config.params t

/-- 70_reset_and_hazards.md R135: the counter counts ticks modulo the frame, so every FRAME_TICKS ticks hold one wrap. -/
def Obligations.TicksCountModuloTheFrame : Prop :=
  ∀ (n : Nat) (s t : State), Inv Config.params s → service (ticks n) s = .next t →
    t.tcnt.toNat = (s.tcnt.toNat + n) % 20000

/-! ## The two sides -/

/-- 20_memory.md R37, 60_exceptions.md R116: the bus side never writes the timer side, the front schedule or `front_sel`. -/
def Obligations.BusSideLeavesTheTimerSide : Prop :=
  ∀ (i : Instr) (s : State), isBus i = true → ∃ t, exec i s = .next t ∧
    t.tcnt = s.tcnt ∧ t.ocr = s.ocr ∧ t.nextIndex = s.nextIndex ∧ t.out = s.out ∧
    t.frontSel = s.frontSel ∧ t.front = s.front ∧ (s.updatePending = true → t.updatePending = true)

/-- 20_memory.md R37, 60_exceptions.md R116: the timer side never writes the bus side or a schedule entry, and never sets
`update_pending`. -/
def Obligations.TimerSideLeavesTheBusSide : Prop :=
  ∀ (i : Instr) (s : State), isTimer i = true → ∃ t, exec i s = .next t ∧
    t.busState = s.busState ∧ t.idx = s.idx ∧ t.rawDuty = s.rawDuty ∧
    t.sched0 = s.sched0 ∧ t.sched1 = s.sched1 ∧ (s.updatePending = false → t.updatePending = false)

/-! ## Encoding -/

/-- 30_encoding.md R48, R55, for every legal parameter set: decoding the word of a well-formed instruction gives it back. -/
def Obligations.DecodingInvertsEncoding : Prop :=
  ∀ p : Params, p.Legal → ∀ i : Instr, i.wellFormedWith p = true → decodeWith p (encodeWith p i) = .ok i

/-- 30_encoding.md R49: every one of the 65536 event words selects exactly one class, which its status byte decides; the
instruction is well-formed, and its own word agrees with the event word in the status byte and, for DATA, the data byte. -/
def Obligations.EveryBusWordSelectsOneClass : Prop :=
  ∀ p : Params, p.Legal → ∀ bev : EventWord,
    (decodeBus p bev).wellFormedWith p = true ∧ isBus (decodeBus p bev) = true ∧
    (decodeBus p bev = .addrW ↔ busStatusOf bev = p.scAddrW) ∧
    (decodeBus p bev = .data (busDataOf bev) ↔ busStatusOf bev = p.scData) ∧
    (decodeBus p bev = .stop ↔ busStatusOf bev = p.scStop) ∧
    (decodeBus p bev = .busErr (busStatusOf bev) ↔ ¬p.Expected (busStatusOf bev)) ∧
    ∃ data : Byte, encodeWith p (decodeBus p bev) = .bus (busWord (busStatusOf bev) data) ∧
      (busStatusOf bev = p.scData → busWord (busStatusOf bev) data = bev)

/-- 30_encoding.md R48, R55, R58: words written out from the encoding tables. -/
def Obligations.WrittenOutWordsDecode : Prop :=
  decode (.bus 0x6000) = .ok .addrW ∧ decode (.bus 0x60FF) = .ok .addrW ∧
  decode (.bus 0x8080) = .ok (.data 0x80) ∧ decode (.bus 0xA000) = .ok .stop ∧
  decode (.bus 0x0000) = .ok (.busErr 0x00) ∧ decode (.bus 0x6100) = .ok (.busErr 0x61) ∧
  decode (.rst 1) = .ok .reset ∧ decode (.tick 1) = .ok .tick ∧ decode (.tmr 0b01) = .ok .frameStart ∧
  decode (.tmr 0b10) = .ok .compareMatch ∧ decode (.tmr 0b11) = .ok .frameStart ∧
  decode (.rst 0) = .error .rstLow ∧ decode (.tick 0) = .error .tickLow ∧ decode (.tmr 0b00) = .error .noTimerEvent

/-- 30_encoding.md R53: the 20-bit packing of an entry loses nothing, and the channel numbers 12 to 15 hold no entry
(decision D18). -/
def Obligations.EntryPackingLosesNothing : Prop :=
  (∀ e : Entry, Entry.unpack e.pack = some e) ∧
  (∀ (bits : BitVec 20) (e : Entry), Entry.unpack bits = some e → e.pack = bits) ∧
  ∀ bits : BitVec 20, Entry.unpack bits = none ↔ 12 ≤ (bits.extractLsb' 16 4).toNat

/-- 30_encoding.md R59: bit c of the output port is `out[c]`. -/
def Obligations.OutputPortIsNumberedByChannel : Prop :=
  ∀ (s : State) (c : Fin N), s.outPort.getLsbD c.val = s.out[c]

/-! ## The step -/

/-- A step services the event its fetched word decodes to, on the state with that delivery consumed (00_scope.md R8). -/
def Obligations.StepRunsTheDecodedEvent : Prop :=
  ∀ (s s1 : State) (word : PortWord) (i : Instr), fetch s = (some word, s1) → decode word = .ok i → step s = exec i s1

/-- 00_scope.md R8, 60_exceptions.md R111, 20_memory.md R44, 30_encoding.md R46, R55: which event a step services: an internal
timer event while there is one; else what the oldest port sample asserts, RESET alone if `rst` is 1, one of the bus event
and the TICK if both are (the other stays); and none if nothing is asserted or delivered (log 1, log 2, log 3, log 14). -/
def Obligations.StepServicesOneDelivery : Prop :=
  ∀ s : State,
    (s.tev = 0b01 → step s = exec .frameStart { s with tev := 0 }) ∧
    (s.tev = 0b10 → step s = exec .compareMatch { s with tev := 0 }) ∧
    (s.tev = 0b11 → step s = exec .frameStart { s with tev := 0b10 }) ∧
    (s.tev = 0 → s.inputs = [] → step s = .next { s with resp := none }) ∧
    ∀ (x : PortSample) (rest : List PortSample), s.tev = 0 → s.inputs = x :: rest →
      (x.rst = true → step s = exec .reset { s with inputs := rest }) ∧
      (x.rst = false → x.tick = true → x.busEvValid = false → step s = exec .tick { s with inputs := rest }) ∧
      (x.rst = false → x.tick = false → x.busEvValid = true →
        step s = exec (decodeBus Config.params (busWord x.busStatus x.busData)) { s with inputs := rest }) ∧
      (x.rst = false → x.tick = true → x.busEvValid = true → x.busFirst = true →
        step s = exec (decodeBus Config.params (busWord x.busStatus x.busData))
          { s with inputs := { x with busEvValid := false } :: rest }) ∧
      (x.rst = false → x.tick = true → x.busEvValid = true → x.busFirst = false →
        step s = exec .tick { s with inputs := { x with tick := false } :: rest }) ∧
      (x.rst = false → x.tick = false → x.busEvValid = false →
        step s = .next { s with inputs := rest, resp := none })

/-- 20_memory.md R44: a bus event and a TICK that arise together are serviced one after the other in either order
(decision D15). -/
def Obligations.CoincidingEventsAreServicedInEitherOrder : Prop :=
  ∀ (s : State) (x : PortSample) (rest : List PortSample), s.tev = 0 → s.inputs = x :: rest →
    x.rst = false → x.tick = true → x.busEvValid = true →
    Sys2Proof.core.run 2 s =
      service (if x.busFirst then [decodeBus Config.params (busWord x.busStatus x.busData), .tick]
        else [.tick, decodeBus Config.params (busWord x.busStatus x.busData)]) { s with inputs := rest }

/-- 60_exceptions.md R114: every event in every state has a successor: no fault, no stuck state, no refusal. -/
def Obligations.EveryStepHasASuccessor : Prop :=
  (∀ (i : Instr) (s : State), ∃ t, exec i s = .next t) ∧ ∀ s : State, ∃ t, step s = .next t

/-! ## Invariants -/

/-- 10_state.md R23, R28, 43_pulse_engine.md R98: the invariant holds at reset. -/
def Obligations.ResetMeetsTheInvariant : Prop := Inv Config.params State.reset

/-- 10_state.md R11, R23, 43_pulse_engine.md R98: every step keeps the invariant: both schedules complete, sorted and in range,
`bus_state` settled, the counter inside the frame, the compare register armed ahead of the counter while an entry is left, and
exactly the outputs of the entries left active. -/
def Obligations.EveryStepKeepsTheInvariant : Prop :=
  ∀ s t : State, Inv Config.params s → step s = .next t → Inv Config.params t

/-- 43_pulse_engine.md R98, for every legal parameter set: a TICK keeps the invariant. -/
def Obligations.TickKeepsTheInvariantForEveryLegalParameterSet : Prop :=
  ∀ p : Params, p.Legal → ∀ s : State, Inv p s → Inv p (countTick p s)
end

