-- ==== Sys2Proof/Laws/Decode.lean ====
section
/-! SUPPORT. The fields of an event word and of a packed entry, as numbers and as each other's inverses. -/

namespace Sys2Proof

/-- `{status, data}` as a number. -/
theorem toNat_busWord (status : Status) (data : Byte) :
    (busWord status data).toNat = status.toNat * 256 + data.toNat := by
  show (status ++ data : BitVec (8 + 8)).toNat = _
  rw [BitVec.toNat_append, ← Nat.shiftLeft_add_eq_or_of_lt data.isLt, Nat.shiftLeft_eq]

theorem toNat_busStatusOf (bev : EventWord) : (busStatusOf bev).toNat = bev.toNat / 256 := by
  have h := bev.isLt
  rw [busStatusOf, BitVec.extractLsb'_toNat, Nat.shiftRight_eq_div_pow]
  omega

theorem toNat_busDataOf (bev : EventWord) : (busDataOf bev).toNat = bev.toNat % 256 := by
  rw [busDataOf, BitVec.extractLsb'_toNat, Nat.shiftRight_eq_div_pow]
  omega

@[simp] theorem busStatusOf_busWord (status : Status) (data : Byte) : busStatusOf (busWord status data) = status := by
  apply BitVec.eq_of_toNat_eq
  have h := data.isLt
  rw [toNat_busStatusOf, toNat_busWord]
  omega

@[simp] theorem busDataOf_busWord (status : Status) (data : Byte) : busDataOf (busWord status data) = data := by
  apply BitVec.eq_of_toNat_eq
  have h := data.isLt
  rw [toNat_busDataOf, toNat_busWord]
  omega

/-- An event word is its two fields. -/
theorem busWord_fields (bev : EventWord) : busWord (busStatusOf bev) (busDataOf bev) = bev := by
  apply BitVec.eq_of_toNat_eq
  rw [toNat_busWord, toNat_busStatusOf, toNat_busDataOf]
  omega

namespace Machine

/-- `{channel, duty}` as a number. -/
theorem toNat_pack (e : Entry) : e.pack.toNat = e.channel.val * 65536 + e.duty.toNat := by
  show (BitVec.ofNat 4 e.channel.val ++ e.duty : BitVec (4 + 16)).toNat = _
  have h : e.channel.val < 12 := e.channel.isLt
  rw [BitVec.toNat_append, ← Nat.shiftLeft_add_eq_or_of_lt e.duty.isLt, Nat.shiftLeft_eq, BitVec.toNat_ofNat]
  omega

theorem toNat_channelField (bits : BitVec 20) : (bits.extractLsb' 16 4).toNat = bits.toNat / 65536 := by
  have h := bits.isLt
  rw [BitVec.extractLsb'_toNat, Nat.shiftRight_eq_div_pow]
  omega

theorem toNat_dutyField (bits : BitVec 20) : (bits.extractLsb' 0 16).toNat = bits.toNat % 65536 := by
  rw [BitVec.extractLsb'_toNat, Nat.shiftRight_eq_div_pow]
  omega

end Machine
end Sys2Proof
end

