-- ==== Sys2Proof/Laws/State.lean ====
section
/-! SUPPORT. One lemma per field per update of the state, true by rfl, so that no proof unfolds a record update. -/

namespace Sys2Proof.Machine

/-! ## respond -/

@[simp] theorem respond_busState (r : Option Response) (s : State) : (respond r s).busState = s.busState := rfl
@[simp] theorem respond_idx (r : Option Response) (s : State) : (respond r s).idx = s.idx := rfl
@[simp] theorem respond_rawDuty (r : Option Response) (s : State) : (respond r s).rawDuty = s.rawDuty := rfl
@[simp] theorem respond_sched0 (r : Option Response) (s : State) : (respond r s).sched0 = s.sched0 := rfl
@[simp] theorem respond_sched1 (r : Option Response) (s : State) : (respond r s).sched1 = s.sched1 := rfl
@[simp] theorem respond_frontSel (r : Option Response) (s : State) : (respond r s).frontSel = s.frontSel := rfl
@[simp] theorem respond_updatePending (r : Option Response) (s : State) : (respond r s).updatePending = s.updatePending := rfl
@[simp] theorem respond_nextIndex (r : Option Response) (s : State) : (respond r s).nextIndex = s.nextIndex := rfl
@[simp] theorem respond_tcnt (r : Option Response) (s : State) : (respond r s).tcnt = s.tcnt := rfl
@[simp] theorem respond_ocr (r : Option Response) (s : State) : (respond r s).ocr = s.ocr := rfl
@[simp] theorem respond_out (r : Option Response) (s : State) : (respond r s).out = s.out := rfl
@[simp] theorem respond_resp (r : Option Response) (s : State) : (respond r s).resp = r := rfl
@[simp] theorem respond_tev (r : Option Response) (s : State) : (respond r s).tev = s.tev := rfl
@[simp] theorem respond_inputs (r : Option Response) (s : State) : (respond r s).inputs = s.inputs := rfl
@[simp] theorem respond_front (r : Option Response) (s : State) : (respond r s).front = s.front := rfl
@[simp] theorem respond_back (r : Option Response) (s : State) : (respond r s).back = s.back := rfl

/-! ## setBusState -/

@[simp] theorem setBusState_busState (b : BusState) (s : State) : (setBusState b s).busState = b := rfl
@[simp] theorem setBusState_idx (b : BusState) (s : State) : (setBusState b s).idx = s.idx := rfl
@[simp] theorem setBusState_rawDuty (b : BusState) (s : State) : (setBusState b s).rawDuty = s.rawDuty := rfl
@[simp] theorem setBusState_sched0 (b : BusState) (s : State) : (setBusState b s).sched0 = s.sched0 := rfl
@[simp] theorem setBusState_sched1 (b : BusState) (s : State) : (setBusState b s).sched1 = s.sched1 := rfl
@[simp] theorem setBusState_frontSel (b : BusState) (s : State) : (setBusState b s).frontSel = s.frontSel := rfl
@[simp] theorem setBusState_updatePending (b : BusState) (s : State) : (setBusState b s).updatePending = s.updatePending := rfl
@[simp] theorem setBusState_nextIndex (b : BusState) (s : State) : (setBusState b s).nextIndex = s.nextIndex := rfl
@[simp] theorem setBusState_tcnt (b : BusState) (s : State) : (setBusState b s).tcnt = s.tcnt := rfl
@[simp] theorem setBusState_ocr (b : BusState) (s : State) : (setBusState b s).ocr = s.ocr := rfl
@[simp] theorem setBusState_out (b : BusState) (s : State) : (setBusState b s).out = s.out := rfl
@[simp] theorem setBusState_resp (b : BusState) (s : State) : (setBusState b s).resp = s.resp := rfl
@[simp] theorem setBusState_tev (b : BusState) (s : State) : (setBusState b s).tev = s.tev := rfl
@[simp] theorem setBusState_inputs (b : BusState) (s : State) : (setBusState b s).inputs = s.inputs := rfl
@[simp] theorem setBusState_front (b : BusState) (s : State) : (setBusState b s).front = s.front := rfl
@[simp] theorem setBusState_back (b : BusState) (s : State) : (setBusState b s).back = s.back := rfl

/-! ## clearIdx -/

@[simp] theorem clearIdx_busState (s : State) : (clearIdx s).busState = s.busState := rfl
@[simp] theorem clearIdx_idx (s : State) : (clearIdx s).idx = 0 := rfl
@[simp] theorem clearIdx_rawDuty (s : State) : (clearIdx s).rawDuty = s.rawDuty := rfl
@[simp] theorem clearIdx_sched0 (s : State) : (clearIdx s).sched0 = s.sched0 := rfl
@[simp] theorem clearIdx_sched1 (s : State) : (clearIdx s).sched1 = s.sched1 := rfl
@[simp] theorem clearIdx_frontSel (s : State) : (clearIdx s).frontSel = s.frontSel := rfl
@[simp] theorem clearIdx_updatePending (s : State) : (clearIdx s).updatePending = s.updatePending := rfl
@[simp] theorem clearIdx_nextIndex (s : State) : (clearIdx s).nextIndex = s.nextIndex := rfl
@[simp] theorem clearIdx_tcnt (s : State) : (clearIdx s).tcnt = s.tcnt := rfl
@[simp] theorem clearIdx_ocr (s : State) : (clearIdx s).ocr = s.ocr := rfl
@[simp] theorem clearIdx_out (s : State) : (clearIdx s).out = s.out := rfl
@[simp] theorem clearIdx_resp (s : State) : (clearIdx s).resp = s.resp := rfl
@[simp] theorem clearIdx_tev (s : State) : (clearIdx s).tev = s.tev := rfl
@[simp] theorem clearIdx_inputs (s : State) : (clearIdx s).inputs = s.inputs := rfl
@[simp] theorem clearIdx_front (s : State) : (clearIdx s).front = s.front := rfl
@[simp] theorem clearIdx_back (s : State) : (clearIdx s).back = s.back := rfl

/-! ## storeRaw -/

@[simp] theorem storeRaw_busState (d : Ticks) (s : State) (h : s.idx.val < N) : (storeRaw d s h).busState = s.busState := rfl
@[simp] theorem storeRaw_idx (d : Ticks) (s : State) (h : s.idx.val < N) : (storeRaw d s h).idx = ⟨s.idx.val + 1, Nat.succ_lt_succ h⟩ := rfl
@[simp] theorem storeRaw_rawDuty (d : Ticks) (s : State) (h : s.idx.val < N) : (storeRaw d s h).rawDuty = s.rawDuty.set s.idx.val d h := rfl
@[simp] theorem storeRaw_sched0 (d : Ticks) (s : State) (h : s.idx.val < N) : (storeRaw d s h).sched0 = s.sched0 := rfl
@[simp] theorem storeRaw_sched1 (d : Ticks) (s : State) (h : s.idx.val < N) : (storeRaw d s h).sched1 = s.sched1 := rfl
@[simp] theorem storeRaw_frontSel (d : Ticks) (s : State) (h : s.idx.val < N) : (storeRaw d s h).frontSel = s.frontSel := rfl
@[simp] theorem storeRaw_updatePending (d : Ticks) (s : State) (h : s.idx.val < N) : (storeRaw d s h).updatePending = s.updatePending := rfl
@[simp] theorem storeRaw_nextIndex (d : Ticks) (s : State) (h : s.idx.val < N) : (storeRaw d s h).nextIndex = s.nextIndex := rfl
@[simp] theorem storeRaw_tcnt (d : Ticks) (s : State) (h : s.idx.val < N) : (storeRaw d s h).tcnt = s.tcnt := rfl
@[simp] theorem storeRaw_ocr (d : Ticks) (s : State) (h : s.idx.val < N) : (storeRaw d s h).ocr = s.ocr := rfl
@[simp] theorem storeRaw_out (d : Ticks) (s : State) (h : s.idx.val < N) : (storeRaw d s h).out = s.out := rfl
@[simp] theorem storeRaw_resp (d : Ticks) (s : State) (h : s.idx.val < N) : (storeRaw d s h).resp = s.resp := rfl
@[simp] theorem storeRaw_tev (d : Ticks) (s : State) (h : s.idx.val < N) : (storeRaw d s h).tev = s.tev := rfl
@[simp] theorem storeRaw_inputs (d : Ticks) (s : State) (h : s.idx.val < N) : (storeRaw d s h).inputs = s.inputs := rfl
@[simp] theorem storeRaw_front (d : Ticks) (s : State) (h : s.idx.val < N) : (storeRaw d s h).front = s.front := rfl
@[simp] theorem storeRaw_back (d : Ticks) (s : State) (h : s.idx.val < N) : (storeRaw d s h).back = s.back := rfl

/-! ## publish -/

@[simp] theorem publish_busState (s : State) : (publish s).busState = s.busState := rfl
@[simp] theorem publish_idx (s : State) : (publish s).idx = s.idx := rfl
@[simp] theorem publish_rawDuty (s : State) : (publish s).rawDuty = s.rawDuty := rfl
@[simp] theorem publish_sched0 (s : State) : (publish s).sched0 = s.sched0 := rfl
@[simp] theorem publish_sched1 (s : State) : (publish s).sched1 = s.sched1 := rfl
@[simp] theorem publish_frontSel (s : State) : (publish s).frontSel = s.frontSel := rfl
@[simp] theorem publish_updatePending (s : State) : (publish s).updatePending = true := rfl
@[simp] theorem publish_nextIndex (s : State) : (publish s).nextIndex = s.nextIndex := rfl
@[simp] theorem publish_tcnt (s : State) : (publish s).tcnt = s.tcnt := rfl
@[simp] theorem publish_ocr (s : State) : (publish s).ocr = s.ocr := rfl
@[simp] theorem publish_out (s : State) : (publish s).out = s.out := rfl
@[simp] theorem publish_resp (s : State) : (publish s).resp = s.resp := rfl
@[simp] theorem publish_tev (s : State) : (publish s).tev = s.tev := rfl
@[simp] theorem publish_inputs (s : State) : (publish s).inputs = s.inputs := rfl
@[simp] theorem publish_front (s : State) : (publish s).front = s.front := rfl
@[simp] theorem publish_back (s : State) : (publish s).back = s.back := rfl

/-! ## raiseOutputs -/

@[simp] theorem raiseOutputs_busState (s : State) : (raiseOutputs s).busState = s.busState := rfl
@[simp] theorem raiseOutputs_idx (s : State) : (raiseOutputs s).idx = s.idx := rfl
@[simp] theorem raiseOutputs_rawDuty (s : State) : (raiseOutputs s).rawDuty = s.rawDuty := rfl
@[simp] theorem raiseOutputs_sched0 (s : State) : (raiseOutputs s).sched0 = s.sched0 := rfl
@[simp] theorem raiseOutputs_sched1 (s : State) : (raiseOutputs s).sched1 = s.sched1 := rfl
@[simp] theorem raiseOutputs_frontSel (s : State) : (raiseOutputs s).frontSel = s.frontSel := rfl
@[simp] theorem raiseOutputs_updatePending (s : State) : (raiseOutputs s).updatePending = s.updatePending := rfl
@[simp] theorem raiseOutputs_nextIndex (s : State) : (raiseOutputs s).nextIndex = s.nextIndex := rfl
@[simp] theorem raiseOutputs_tcnt (s : State) : (raiseOutputs s).tcnt = s.tcnt := rfl
@[simp] theorem raiseOutputs_ocr (s : State) : (raiseOutputs s).ocr = s.ocr := rfl
@[simp] theorem raiseOutputs_out (s : State) : (raiseOutputs s).out = Vector.replicate N true := rfl
@[simp] theorem raiseOutputs_resp (s : State) : (raiseOutputs s).resp = s.resp := rfl
@[simp] theorem raiseOutputs_tev (s : State) : (raiseOutputs s).tev = s.tev := rfl
@[simp] theorem raiseOutputs_inputs (s : State) : (raiseOutputs s).inputs = s.inputs := rfl
@[simp] theorem raiseOutputs_front (s : State) : (raiseOutputs s).front = s.front := rfl
@[simp] theorem raiseOutputs_back (s : State) : (raiseOutputs s).back = s.back := rfl

/-! ## deactivate -/

@[simp] theorem deactivate_busState (c : Fin N) (s : State) : (deactivate c s).busState = s.busState := rfl
@[simp] theorem deactivate_idx (c : Fin N) (s : State) : (deactivate c s).idx = s.idx := rfl
@[simp] theorem deactivate_rawDuty (c : Fin N) (s : State) : (deactivate c s).rawDuty = s.rawDuty := rfl
@[simp] theorem deactivate_sched0 (c : Fin N) (s : State) : (deactivate c s).sched0 = s.sched0 := rfl
@[simp] theorem deactivate_sched1 (c : Fin N) (s : State) : (deactivate c s).sched1 = s.sched1 := rfl
@[simp] theorem deactivate_frontSel (c : Fin N) (s : State) : (deactivate c s).frontSel = s.frontSel := rfl
@[simp] theorem deactivate_updatePending (c : Fin N) (s : State) : (deactivate c s).updatePending = s.updatePending := rfl
@[simp] theorem deactivate_nextIndex (c : Fin N) (s : State) : (deactivate c s).nextIndex = s.nextIndex := rfl
@[simp] theorem deactivate_tcnt (c : Fin N) (s : State) : (deactivate c s).tcnt = s.tcnt := rfl
@[simp] theorem deactivate_ocr (c : Fin N) (s : State) : (deactivate c s).ocr = s.ocr := rfl
@[simp] theorem deactivate_out (c : Fin N) (s : State) : (deactivate c s).out = s.out.set c.val false := rfl
@[simp] theorem deactivate_resp (c : Fin N) (s : State) : (deactivate c s).resp = s.resp := rfl
@[simp] theorem deactivate_tev (c : Fin N) (s : State) : (deactivate c s).tev = s.tev := rfl
@[simp] theorem deactivate_inputs (c : Fin N) (s : State) : (deactivate c s).inputs = s.inputs := rfl
@[simp] theorem deactivate_front (c : Fin N) (s : State) : (deactivate c s).front = s.front := rfl
@[simp] theorem deactivate_back (c : Fin N) (s : State) : (deactivate c s).back = s.back := rfl

/-! ## advanceCursor -/

@[simp] theorem advanceCursor_busState (s : State) : (advanceCursor s).busState = s.busState := rfl
@[simp] theorem advanceCursor_idx (s : State) : (advanceCursor s).idx = s.idx := rfl
@[simp] theorem advanceCursor_rawDuty (s : State) : (advanceCursor s).rawDuty = s.rawDuty := rfl
@[simp] theorem advanceCursor_sched0 (s : State) : (advanceCursor s).sched0 = s.sched0 := rfl
@[simp] theorem advanceCursor_sched1 (s : State) : (advanceCursor s).sched1 = s.sched1 := rfl
@[simp] theorem advanceCursor_frontSel (s : State) : (advanceCursor s).frontSel = s.frontSel := rfl
@[simp] theorem advanceCursor_updatePending (s : State) : (advanceCursor s).updatePending = s.updatePending := rfl
@[simp] theorem advanceCursor_nextIndex (s : State) : (advanceCursor s).nextIndex = ⟨min (s.nextIndex.val + 1) N, Nat.lt_succ_of_le (Nat.min_le_right _ _)⟩ := rfl
@[simp] theorem advanceCursor_tcnt (s : State) : (advanceCursor s).tcnt = s.tcnt := rfl
@[simp] theorem advanceCursor_ocr (s : State) : (advanceCursor s).ocr = s.ocr := rfl
@[simp] theorem advanceCursor_out (s : State) : (advanceCursor s).out = s.out := rfl
@[simp] theorem advanceCursor_resp (s : State) : (advanceCursor s).resp = s.resp := rfl
@[simp] theorem advanceCursor_tev (s : State) : (advanceCursor s).tev = s.tev := rfl
@[simp] theorem advanceCursor_inputs (s : State) : (advanceCursor s).inputs = s.inputs := rfl
@[simp] theorem advanceCursor_front (s : State) : (advanceCursor s).front = s.front := rfl
@[simp] theorem advanceCursor_back (s : State) : (advanceCursor s).back = s.back := rfl

/-! ## rewindCursor -/

@[simp] theorem rewindCursor_busState (s : State) : (rewindCursor s).busState = s.busState := rfl
@[simp] theorem rewindCursor_idx (s : State) : (rewindCursor s).idx = s.idx := rfl
@[simp] theorem rewindCursor_rawDuty (s : State) : (rewindCursor s).rawDuty = s.rawDuty := rfl
@[simp] theorem rewindCursor_sched0 (s : State) : (rewindCursor s).sched0 = s.sched0 := rfl
@[simp] theorem rewindCursor_sched1 (s : State) : (rewindCursor s).sched1 = s.sched1 := rfl
@[simp] theorem rewindCursor_frontSel (s : State) : (rewindCursor s).frontSel = s.frontSel := rfl
@[simp] theorem rewindCursor_updatePending (s : State) : (rewindCursor s).updatePending = s.updatePending := rfl
@[simp] theorem rewindCursor_nextIndex (s : State) : (rewindCursor s).nextIndex = 0 := rfl
@[simp] theorem rewindCursor_tcnt (s : State) : (rewindCursor s).tcnt = s.tcnt := rfl
@[simp] theorem rewindCursor_ocr (s : State) : (rewindCursor s).ocr = s.ocr := rfl
@[simp] theorem rewindCursor_out (s : State) : (rewindCursor s).out = s.out := rfl
@[simp] theorem rewindCursor_resp (s : State) : (rewindCursor s).resp = s.resp := rfl
@[simp] theorem rewindCursor_tev (s : State) : (rewindCursor s).tev = s.tev := rfl
@[simp] theorem rewindCursor_inputs (s : State) : (rewindCursor s).inputs = s.inputs := rfl
@[simp] theorem rewindCursor_front (s : State) : (rewindCursor s).front = s.front := rfl
@[simp] theorem rewindCursor_back (s : State) : (rewindCursor s).back = s.back := rfl

/-! ## arm -/

@[simp] theorem arm_busState (d : Ticks) (s : State) : (arm d s).busState = s.busState := rfl
@[simp] theorem arm_idx (d : Ticks) (s : State) : (arm d s).idx = s.idx := rfl
@[simp] theorem arm_rawDuty (d : Ticks) (s : State) : (arm d s).rawDuty = s.rawDuty := rfl
@[simp] theorem arm_sched0 (d : Ticks) (s : State) : (arm d s).sched0 = s.sched0 := rfl
@[simp] theorem arm_sched1 (d : Ticks) (s : State) : (arm d s).sched1 = s.sched1 := rfl
@[simp] theorem arm_frontSel (d : Ticks) (s : State) : (arm d s).frontSel = s.frontSel := rfl
@[simp] theorem arm_updatePending (d : Ticks) (s : State) : (arm d s).updatePending = s.updatePending := rfl
@[simp] theorem arm_nextIndex (d : Ticks) (s : State) : (arm d s).nextIndex = s.nextIndex := rfl
@[simp] theorem arm_tcnt (d : Ticks) (s : State) : (arm d s).tcnt = s.tcnt := rfl
@[simp] theorem arm_ocr (d : Ticks) (s : State) : (arm d s).ocr = d := rfl
@[simp] theorem arm_out (d : Ticks) (s : State) : (arm d s).out = s.out := rfl
@[simp] theorem arm_resp (d : Ticks) (s : State) : (arm d s).resp = s.resp := rfl
@[simp] theorem arm_tev (d : Ticks) (s : State) : (arm d s).tev = s.tev := rfl
@[simp] theorem arm_inputs (d : Ticks) (s : State) : (arm d s).inputs = s.inputs := rfl
@[simp] theorem arm_front (d : Ticks) (s : State) : (arm d s).front = s.front := rfl
@[simp] theorem arm_back (d : Ticks) (s : State) : (arm d s).back = s.back := rfl

/-! ## setTcnt -/

@[simp] theorem setTcnt_busState (c : Ticks) (s : State) : (setTcnt c s).busState = s.busState := rfl
@[simp] theorem setTcnt_idx (c : Ticks) (s : State) : (setTcnt c s).idx = s.idx := rfl
@[simp] theorem setTcnt_rawDuty (c : Ticks) (s : State) : (setTcnt c s).rawDuty = s.rawDuty := rfl
@[simp] theorem setTcnt_sched0 (c : Ticks) (s : State) : (setTcnt c s).sched0 = s.sched0 := rfl
@[simp] theorem setTcnt_sched1 (c : Ticks) (s : State) : (setTcnt c s).sched1 = s.sched1 := rfl
@[simp] theorem setTcnt_frontSel (c : Ticks) (s : State) : (setTcnt c s).frontSel = s.frontSel := rfl
@[simp] theorem setTcnt_updatePending (c : Ticks) (s : State) : (setTcnt c s).updatePending = s.updatePending := rfl
@[simp] theorem setTcnt_nextIndex (c : Ticks) (s : State) : (setTcnt c s).nextIndex = s.nextIndex := rfl
@[simp] theorem setTcnt_tcnt (c : Ticks) (s : State) : (setTcnt c s).tcnt = c := rfl
@[simp] theorem setTcnt_ocr (c : Ticks) (s : State) : (setTcnt c s).ocr = s.ocr := rfl
@[simp] theorem setTcnt_out (c : Ticks) (s : State) : (setTcnt c s).out = s.out := rfl
@[simp] theorem setTcnt_resp (c : Ticks) (s : State) : (setTcnt c s).resp = s.resp := rfl
@[simp] theorem setTcnt_tev (c : Ticks) (s : State) : (setTcnt c s).tev = s.tev := rfl
@[simp] theorem setTcnt_inputs (c : Ticks) (s : State) : (setTcnt c s).inputs = s.inputs := rfl
@[simp] theorem setTcnt_front (c : Ticks) (s : State) : (setTcnt c s).front = s.front := rfl
@[simp] theorem setTcnt_back (c : Ticks) (s : State) : (setTcnt c s).back = s.back := rfl

/-! ## setBack -/

@[simp] theorem setBack_busState (sch : Schedule) (s : State) : (setBack sch s).busState = s.busState := by
  unfold setBack; split <;> rfl
@[simp] theorem setBack_idx (sch : Schedule) (s : State) : (setBack sch s).idx = s.idx := by
  unfold setBack; split <;> rfl
@[simp] theorem setBack_rawDuty (sch : Schedule) (s : State) : (setBack sch s).rawDuty = s.rawDuty := by
  unfold setBack; split <;> rfl
@[simp] theorem setBack_frontSel (sch : Schedule) (s : State) : (setBack sch s).frontSel = s.frontSel := by
  unfold setBack; split <;> rfl
@[simp] theorem setBack_updatePending (sch : Schedule) (s : State) : (setBack sch s).updatePending = s.updatePending := by
  unfold setBack; split <;> rfl
@[simp] theorem setBack_nextIndex (sch : Schedule) (s : State) : (setBack sch s).nextIndex = s.nextIndex := by
  unfold setBack; split <;> rfl
@[simp] theorem setBack_tcnt (sch : Schedule) (s : State) : (setBack sch s).tcnt = s.tcnt := by
  unfold setBack; split <;> rfl
@[simp] theorem setBack_ocr (sch : Schedule) (s : State) : (setBack sch s).ocr = s.ocr := by
  unfold setBack; split <;> rfl
@[simp] theorem setBack_out (sch : Schedule) (s : State) : (setBack sch s).out = s.out := by
  unfold setBack; split <;> rfl
@[simp] theorem setBack_resp (sch : Schedule) (s : State) : (setBack sch s).resp = s.resp := by
  unfold setBack; split <;> rfl
@[simp] theorem setBack_tev (sch : Schedule) (s : State) : (setBack sch s).tev = s.tev := by
  unfold setBack; split <;> rfl
@[simp] theorem setBack_inputs (sch : Schedule) (s : State) : (setBack sch s).inputs = s.inputs := by
  unfold setBack; split <;> rfl
@[simp] theorem setBack_sched0 (sch : Schedule) (s : State) :
    (setBack sch s).sched0 = if s.frontSel then sch else s.sched0 := by
  unfold setBack; split <;> rfl
@[simp] theorem setBack_sched1 (sch : Schedule) (s : State) :
    (setBack sch s).sched1 = if s.frontSel then s.sched1 else sch := by
  unfold setBack; split <;> rfl
@[simp] theorem setBack_front (sch : Schedule) (s : State) : (setBack sch s).front = s.front := by
  unfold setBack State.front; cases s.frontSel <;> rfl
@[simp] theorem setBack_back (sch : Schedule) (s : State) : (setBack sch s).back = sch := by
  unfold setBack State.back; cases s.frontSel <;> simp

/-! ## swap -/

@[simp] theorem swap_busState (s : State) : (swap s).busState = s.busState := by
  unfold swap; split <;> rfl
@[simp] theorem swap_idx (s : State) : (swap s).idx = s.idx := by
  unfold swap; split <;> rfl
@[simp] theorem swap_rawDuty (s : State) : (swap s).rawDuty = s.rawDuty := by
  unfold swap; split <;> rfl
@[simp] theorem swap_sched0 (s : State) : (swap s).sched0 = s.sched0 := by
  unfold swap; split <;> rfl
@[simp] theorem swap_sched1 (s : State) : (swap s).sched1 = s.sched1 := by
  unfold swap; split <;> rfl
@[simp] theorem swap_nextIndex (s : State) : (swap s).nextIndex = s.nextIndex := by
  unfold swap; split <;> rfl
@[simp] theorem swap_tcnt (s : State) : (swap s).tcnt = s.tcnt := by
  unfold swap; split <;> rfl
@[simp] theorem swap_ocr (s : State) : (swap s).ocr = s.ocr := by
  unfold swap; split <;> rfl
@[simp] theorem swap_out (s : State) : (swap s).out = s.out := by
  unfold swap; split <;> rfl
@[simp] theorem swap_resp (s : State) : (swap s).resp = s.resp := by
  unfold swap; split <;> rfl
@[simp] theorem swap_tev (s : State) : (swap s).tev = s.tev := by
  unfold swap; split <;> rfl
@[simp] theorem swap_inputs (s : State) : (swap s).inputs = s.inputs := by
  unfold swap; split <;> rfl
@[simp] theorem swap_updatePending (s : State) : (swap s).updatePending = false := by
  unfold swap; cases h : s.updatePending <;> simp [h]
@[simp] theorem swap_frontSel (s : State) : (swap s).frontSel = (s.frontSel != s.updatePending) := by
  unfold swap; cases h : s.updatePending <;> simp
theorem swap_front (s : State) : (swap s).front = if s.updatePending then s.back else s.front := by
  unfold swap State.front State.back; cases s.updatePending <;> cases hs : s.frontSel <;> simp [hs]
theorem swap_back (s : State) : (swap s).back = if s.updatePending then s.front else s.back := by
  unfold swap State.front State.back; cases s.updatePending <;> cases hs : s.frontSel <;> simp [hs]

end Sys2Proof.Machine
end

