-- ==== Sys2Proof/Laws/Ops.lean ====
section
/-! SUPPORT. One spec lemma per shared operation: everything it can do, so that a proof cites the lemma and does not unfold
the operation. -/

namespace Sys2Proof.Machine

@[simp] theorem N_eq : N = 12 := rfl

/-- The machine's own parameters are a legal set, whatever the margin is (00_scope.md R7). -/
theorem params_legal : Config.params.Legal := by
  have h := Config.openMargin.isLt
  have hm : Config.params.margin = Config.openMargin.val := rfl
  refine ⟨by decide, by decide, by decide, ?_, by decide⟩
  rw [hm]
  show 20000 - 1 + 12 * _ < 65536
  omega

/-! ## The error path and the bus operations -/

theorem abort_eq (s : State) : abort s = { s with busState := .idle, resp := some .busReset } := rfl

theorem startTransaction_eq (s : State) :
    startTransaction s = { s with busState := .receiving, idx := 0, resp := some .ack } := rfl

theorem dataByte_accepted (p : Params) (raw : Byte) {s : State} (hb : s.busState = .receiving) (h : s.idx.val < N) :
    dataByte p raw s = respond (some .ack) (storeRaw (mapDuty p raw) s h) := by
  simp only [dataByte, hb, h, ↓reduceIte, ↓reduceDIte]

theorem dataByte_full (p : Params) (raw : Byte) {s : State} (hb : s.busState = .receiving) (h : ¬s.idx.val < N) :
    dataByte p raw s = abort s := by
  simp only [dataByte, hb, h, ↓reduceIte, ↓reduceDIte, raiseError]

theorem dataByte_unexpected (p : Params) (raw : Byte) {s : State} (hb : s.busState ≠ .receiving) :
    dataByte p raw s = abort s := by
  simp only [dataByte, hb, ↓reduceIte, raiseError]

theorem stopTransaction_receiving (p : Params) {s : State} (hb : s.busState = .receiving) :
    stopTransaction p s =
      { setBack (sortSchedule s.rawDuty s.back) s with updatePending := true, busState := .idle, resp := some .ack } := by
  simp only [stopTransaction, hb, ↓reduceIte, sortBack, setBusState_back, setBusState_rawDuty]
  generalize sortSchedule s.rawDuty s.back = sch
  obtain ⟨b, i, r, s0, s1, fs, up, ni, tc, oc, o, re, te, inp⟩ := s
  cases fs <;> rfl

theorem stopTransaction_unexpected (p : Params) {s : State} (hb : s.busState ≠ .receiving) :
    stopTransaction p s = abort s := by
  simp only [stopTransaction, hb, ↓reduceIte, raiseError]

/-! ## SORT -/

/-- An insertion at `j` leaves every position above `j` alone. -/
theorem shiftInsert_above (e : Entry) (j : Nat) (hj : j < N) (b : Schedule) (k : Nat) (hk : k < N) (h : j < k) :
    (shiftInsert e j hj b)[k] = b[k] := by
  induction j generalizing b with
  | zero => simp only [shiftInsert]; exact Vector.getElem_set_ne _ _ (by omega)
  | succ j ih =>
    simp only [shiftInsert]
    split
    · rw [ih _ _ (by omega)]; exact Vector.getElem_set_ne _ _ (by omega)
    · exact Vector.getElem_set_ne _ _ (by omega)

/-! ## FRAME_START -/

theorem frameStart_eq (s : State) :
    frameStart s = { s with
      out := Vector.replicate N true
      frontSel := (if s.updatePending then !s.frontSel else s.frontSel)
      updatePending := false
      nextIndex := 0
      ocr := (if s.updatePending then s.back else s.front)[0].duty } := by
  obtain ⟨b, i, r, s0, s1, fs, up, ni, tc, oc, o, re, te, inp⟩ := s
  cases up <;> cases fs <;> rfl

/-! ## COMPARE_MATCH -/

/-- The loop writes `out`, `next_index` and `OCR`, and nothing else. -/
theorem walk_frame (p : Params) (fuel t : Nat) (s : State) :
    walk p fuel t s = { s with
      out := (walk p fuel t s).out, nextIndex := (walk p fuel t s).nextIndex, ocr := (walk p fuel t s).ocr } := by
  induction fuel generalizing t s with
  | zero => rfl
  | succ fuel ih =>
    simp only [walk]
    split
    · split
      · split
        · rw [ih]; rfl
        · rfl
      · rfl
    · rfl

/-- With nothing left in the frame the loop does nothing (43_pulse_engine.md R96). -/
theorem walk_done (p : Params) (fuel t : Nat) {s : State} (h : ¬s.nextIndex.val < N) : walk p fuel t s = s := by
  cases fuel with
  | zero => rfl
  | succ fuel => simp only [walk, h, ↓reduceDIte]

theorem compareMatch_frame (p : Params) (t0 : Nat) (s : State) :
    compareMatch p t0 s = { s with
      out := (compareMatch p t0 s).out
      nextIndex := (compareMatch p t0 s).nextIndex
      ocr := (compareMatch p t0 s).ocr } := walk_frame p N t0 s

@[simp] theorem compareMatch_busState (p : Params) (t0 : Nat) (s : State) : (compareMatch p t0 s).busState = s.busState := by
  rw [compareMatch_frame]
@[simp] theorem compareMatch_idx (p : Params) (t0 : Nat) (s : State) : (compareMatch p t0 s).idx = s.idx := by
  rw [compareMatch_frame]
@[simp] theorem compareMatch_rawDuty (p : Params) (t0 : Nat) (s : State) : (compareMatch p t0 s).rawDuty = s.rawDuty := by
  rw [compareMatch_frame]
@[simp] theorem compareMatch_sched0 (p : Params) (t0 : Nat) (s : State) : (compareMatch p t0 s).sched0 = s.sched0 := by
  rw [compareMatch_frame]
@[simp] theorem compareMatch_sched1 (p : Params) (t0 : Nat) (s : State) : (compareMatch p t0 s).sched1 = s.sched1 := by
  rw [compareMatch_frame]
@[simp] theorem compareMatch_frontSel (p : Params) (t0 : Nat) (s : State) : (compareMatch p t0 s).frontSel = s.frontSel := by
  rw [compareMatch_frame]
@[simp] theorem compareMatch_updatePending (p : Params) (t0 : Nat) (s : State) :
    (compareMatch p t0 s).updatePending = s.updatePending := by
  rw [compareMatch_frame]
@[simp] theorem compareMatch_tcnt (p : Params) (t0 : Nat) (s : State) : (compareMatch p t0 s).tcnt = s.tcnt := by
  rw [compareMatch_frame]
@[simp] theorem compareMatch_resp (p : Params) (t0 : Nat) (s : State) : (compareMatch p t0 s).resp = s.resp := by
  rw [compareMatch_frame]
@[simp] theorem compareMatch_tev (p : Params) (t0 : Nat) (s : State) : (compareMatch p t0 s).tev = s.tev := by
  rw [compareMatch_frame]
@[simp] theorem compareMatch_inputs (p : Params) (t0 : Nat) (s : State) : (compareMatch p t0 s).inputs = s.inputs := by
  rw [compareMatch_frame]
@[simp] theorem compareMatch_front (p : Params) (t0 : Nat) (s : State) : (compareMatch p t0 s).front = s.front := by
  simp only [State.front, compareMatch_frontSel, compareMatch_sched0, compareMatch_sched1]
@[simp] theorem compareMatch_back (p : Params) (t0 : Nat) (s : State) : (compareMatch p t0 s).back = s.back := by
  simp only [State.back, compareMatch_frontSel, compareMatch_sched0, compareMatch_sched1]

/-! ## TICK -/

/-- What a TICK can do: count; count and serve the match; or start a frame, and serve a match at count 0 if the first duty
is 0. -/
theorem countTick_cases (p : Params) (s : State) :
    (ovfHit p s = false ∧ s.tcnt + 1 ≠ s.ocr ∧ countTick p s = setTcnt (s.tcnt + 1) s) ∨
    (ovfHit p s = false ∧ s.tcnt + 1 = s.ocr ∧
      countTick p s = compareMatch p (s.tcnt + 1).toNat (setTcnt (s.tcnt + 1) s)) ∨
    (ovfHit p s = true ∧ (frameStart (setTcnt 0 s)).ocr ≠ 0 ∧ countTick p s = frameStart (setTcnt 0 s)) ∨
    (ovfHit p s = true ∧ (frameStart (setTcnt 0 s)).ocr = 0 ∧
      countTick p s = compareMatch p 0 (frameStart (setTcnt 0 s))) := by
  unfold countTick advance
  cases h : ovfHit p s
  · by_cases hc : s.tcnt + 1 = s.ocr
    · exact .inr (.inl ⟨rfl, hc, if_pos (decide_eq_true hc)⟩)
    · exact .inl ⟨rfl, hc, if_neg fun hm => hc (of_decide_eq_true hm)⟩
  · have ht : (frameStart (setTcnt 0 s)).tcnt = 0 := by rw [frameStart_eq]; rfl
    have hm : cmpHit (frameStart (setTcnt 0 s)) = decide ((frameStart (setTcnt 0 s)).ocr = 0) := by
      simp only [cmpHit, ht, eq_comm]
    by_cases hc : (frameStart (setTcnt 0 s)).ocr = 0
    · exact .inr (.inr (.inr ⟨rfl, hc, by simp only [↓reduceIte, hm, hc, decide_true, ht]; rfl⟩))
    · exact .inr (.inr (.inl ⟨rfl, hc, by simp only [↓reduceIte, hm, hc, decide_false, Bool.false_eq_true]⟩))

/-! ## The step -/

theorem fetch_quiet {s : State} (ht : s.tev = 0) (hi : s.inputs = []) : fetch s = (none, s) := by
  simp only [fetch, ht, hi, ↓reduceIte]

theorem fetch_sample {s : State} (ht : s.tev = 0) {x : PortSample} {rest : List PortSample} (hi : s.inputs = x :: rest) :
    fetch s = (x.take.1, { s with inputs := x.take.2.toList ++ rest }) := by
  simp only [fetch, ht, hi, ↓reduceIte]

end Sys2Proof.Machine
end

