-- ==== Sys2Proof/Laws/PerInstr.lean ====
section
/-! SUPPORT. Statements about every instruction as syntax, one lemma per constructor. TableMatch: the word of the instruction
matches its row of spec/opcode_table.json, under the machine's own parameters. -/

namespace Sys2Proof.Laws.TableMatch

open Sys2Proof

/-- The encoded word has the format, the match and the mask of the instruction's row. -/
def Statement (i : Instr) : Prop := i.row.matches (encode i) = true

theorem reset : Statement .reset := by unfold Statement; decide

theorem tick : Statement .tick := by unfold Statement; decide

theorem addrW : Statement .addrW := by unfold Statement; decide

theorem data (raw : Byte) : Statement (.data raw) := by
  unfold Statement
  revert raw
  decide

theorem stop : Statement .stop := by unfold Statement; decide

theorem busErr (status : Status) : Statement (.busErr status) := by
  simp [Statement, OpRow.matches, Instr.row, encode, encodeWith, PortWord.format, PortWord.bits]

theorem frameStart : Statement .frameStart := by unfold Statement; decide

theorem compareMatch : Statement .compareMatch := by unfold Statement; decide

end Sys2Proof.Laws.TableMatch
end

