-- ==== Sys2Proof/Tests/Slice0.lean ====
section
/-! SUPPORT. Tests of the model, their expected results taken from the spec's tables and worked examples (named in each
docstring), and for every statement with hypotheses a witness that meets them. -/

namespace Sys2Proof.Tests

open Sys2Proof Sys2Proof.Machine

/-! ## Helpers -/

/-- The state an outcome leaves, the reset state where it leaves none. -/
def after : Host.Outcome State Fault Refusal → State
  | .next t => t
  | .fault _ => State.reset
  | .refused _ => State.reset

/-- The table's parameters with a margin of our own (95_test_vectors.md: MARGIN = 0 unless a vector says otherwise). -/
def withMargin (m : Nat) : Params := { Config.params with margin := m }

/-- A state of the bus side. -/
def onBus (b : BusState) (idx : Fin (N + 1)) : State := { State.reset with busState := b, idx := idx }

/-- A state of the counter. -/
def atTick (tcnt ocr : Ticks) (nextIndex : Fin (N + 1)) : State :=
  { State.reset with tcnt := tcnt, ocr := ocr, nextIndex := nextIndex }

/-- The state right after the first frame start (70_reset_and_hazards.md R125). -/
def frameBegun : State := { State.reset with out := Vector.replicate N true, ocr := 1000, nextIndex := 0 }

/-- The last count of a frame whose outputs have all fallen. -/
def lastTick : State := atTick 19999 2000 12

/-- V3 row 2, the input. -/
def rawRow2 : Vector Ticks N := #v[2000, 1000, 1501, 1250, 1250, 1784, 1039, 1000, 2000, 1200, 1392, 1666]

/-- V3 row 2, the schedule. -/
def schedRow2 : Schedule :=
  #v[⟨1, 1000⟩, ⟨7, 1000⟩, ⟨6, 1039⟩, ⟨9, 1200⟩, ⟨3, 1250⟩, ⟨4, 1250⟩, ⟨10, 1392⟩, ⟨2, 1501⟩, ⟨11, 1666⟩, ⟨5, 1784⟩,
    ⟨0, 2000⟩, ⟨8, 2000⟩]

/-- V6, the schedule F. -/
def schedF : Schedule :=
  #v[⟨0, 1000⟩, ⟨1, 1008⟩, ⟨2, 1017⟩, ⟨3, 1020⟩, ⟨4, 1500⟩, ⟨5, 1500⟩, ⟨6, 1500⟩, ⟨7, 1507⟩, ⟨8, 1514⟩, ⟨9, 1522⟩,
    ⟨10, 2000⟩, ⟨11, 2000⟩]

/-- V6: F as front, all outputs of the entries from `next_index` on active. -/
def inF (nextIndex : Fin (N + 1)) (ocr : Ticks) (out : Vector Bool N) : State :=
  { State.reset with sched0 := schedF, nextIndex := nextIndex, ocr := ocr, out := out }

/-! ## Well-formedness: what the check refuses -/

theorem test_wf_refuses_addrW_status : (Instr.busErr 0x60).wellFormed = false := by decide
theorem test_wf_refuses_data_status : (Instr.busErr 0x80).wellFormed = false := by decide
theorem test_wf_refuses_stop_status : (Instr.busErr 0xA0).wellFormed = false := by decide
theorem test_wf_allows_others : (Instr.busErr 0x61).wellFormed = true := by decide

/-! ## Decoding: words written out from 30_encoding.md R48, R55, R58 and the opcode table -/

theorem test_decode_reset : decode (.rst 0b1) = .ok .reset := rfl
theorem test_decode_tick : decode (.tick 0b1) = .ok .tick := rfl
theorem test_decode_addrW : decode (.bus 0b0110000000000000) = .ok .addrW := rfl
theorem test_decode_addrW_ignores_data : decode (.bus 0b0110000011111111) = .ok .addrW := rfl
theorem test_decode_data : decode (.bus 0b1000000010000000) = .ok (.data 0x80) := rfl
theorem test_decode_stop : decode (.bus 0b1010000000000000) = .ok .stop := rfl
theorem test_decode_busErr : decode (.bus 0b0110000100000000) = .ok (.busErr 0x61) := rfl
theorem test_decode_frameStart : decode (.tmr 0b01) = .ok .frameStart := rfl
theorem test_decode_compareMatch : decode (.tmr 0b10) = .ok .compareMatch := rfl
theorem test_decode_frameStart_first : decode (.tmr 0b11) = .ok .frameStart := rfl

/-- The table words as the host numbers them. -/
theorem test_table_words :
    decodeTableWord 16 0x6000 = some .addrW ∧ decodeTableWord 16 0x80FF = some (.data 0xFF) ∧
    decodeTableWord 16 0xA000 = some .stop ∧ decodeTableWord 16 0x0000 = some (.busErr 0) ∧
    decodeTableWord 8 1 = some .tick ∧ decodeTableWord 8 2 = some .compareMatch ∧
    decodeTableWord 8 3 = some .frameStart := by decide

/-! ## One step on a placed word -/

theorem test_step_runs_addrW : (after (step (State.reset.withFetchWord 16 0x6000))).busState = .receiving := by decide
theorem test_step_runs_tick : (after (step (State.reset.withFetchWord 8 1))).tcnt = 1 := by decide
theorem test_step_runs_compareMatch : (after (step (State.reset.withFetchWord 8 2))).nextIndex = 12 := by decide
theorem test_step_runs_busErr : (after (step (State.reset.withFetchWord 16 0x0000))).busReset = true := by decide

/-! ## The bus family: V1 and V2 of 95_test_vectors.md -/

/-- V1: the corner cases of MAP. -/
theorem test_map_corners :
    mapByte Config.params 0x00 = 1000 ∧ mapByte Config.params 0xFF = 2000 ∧ mapByte Config.params 0x42 = 1258 ∧
    mapByte Config.params 0x7F = 1498 ∧ mapByte Config.params 0x80 = 1501 := by decide

/-- V2 row 2. -/
theorem test_addrW_restarts : after (exec .addrW (onBus .idle 12)) =
    { onBus .receiving 0 with resp := some .ack } := by decide
/-- V2 row 5. -/
theorem test_data_stores : after (exec (.data 0x80) (onBus .receiving 2)) =
    { onBus .receiving 3 with
      rawDuty := #v[1000, 1000, 1501, 1000, 1000, 1000, 1000, 1000, 1000, 1000, 1000, 1000]
      resp := some .ack } := by decide
/-- V2 row 7. -/
theorem test_data_overflows : after (exec (.data 0x01) (onBus .receiving 12)) =
    { onBus .idle 12 with resp := some .busReset } := by decide
/-- V2 row 9. -/
theorem test_stop_unexpected : after (exec .stop (onBus .idle 3)) =
    { onBus .idle 3 with resp := some .busReset } := by decide
/-- V2 row 10, V3 row 2: the back buffer is `sched[1]`. -/
theorem test_stop_publishes : after (exec .stop { onBus .receiving 12 with rawDuty := rawRow2 }) =
    { onBus .idle 12 with
      rawDuty := rawRow2
      sched1 := schedRow2
      updatePending := true
      resp := some .ack } := by decide
/-- V2 row 17. -/
theorem test_busErr_keeps_pending : after (exec (.busErr 0x00) { onBus .receiving 12 with updatePending := true }) =
    { onBus .idle 12 with updatePending := true, resp := some .busReset } := by decide

/-! ## The timer family: V4 to V7 -/

/-- V4 row 7: two swaps after one publish swap once. -/
theorem test_swap_twice : swap (swap (publish State.reset)) = { State.reset with frontSel := true } := by decide
/-- V5 row 2: the pending schedule is adopted and arms the compare register. -/
theorem test_frameStart_adopts : after (exec .frameStart { lastTick with sched1 := schedRow2, updatePending := true }) =
    { lastTick with
      sched1 := schedRow2
      frontSel := true
      nextIndex := 0
      ocr := 1000
      out := Vector.replicate N true } := by decide
/-- V5 row 5: work left in the frame is started anew all the same. -/
theorem test_frameStart_restarts : after (exec .frameStart { frameBegun with nextIndex := 10, ocr := 2000 }) =
    frameBegun := by decide
/-- V6, MARGIN = 0: three equal duties in one invocation. -/
theorem test_compareMatch_equal_duties :
    let t := compareMatch (withMargin 0) 1500
      (inF 4 1500 #v[false, false, false, false, true, true, true, true, true, true, true, true])
    t.nextIndex = 7 ∧ t.ocr = 1507 ∧ t.outPort = 0xF80 := by decide
/-- V6, MARGIN = 8: the look-ahead serves six entries. -/
theorem test_compareMatch_margin :
    let t := compareMatch (withMargin 8) 1500
      (inF 4 1500 #v[false, false, false, false, true, true, true, true, true, true, true, true])
    t.nextIndex = 10 ∧ t.ocr = 2000 ∧ t.outPort = 0xC00 := by decide
/-- V7 row 1: no match against the old count. -/
theorem test_tick_counts : after (exec .tick (atTick 0 0 12)) = atTick 1 0 12 := by decide
/-- V7 row 7: the wrap compares with the new compare register. -/
theorem test_tick_wraps : after (exec .tick (atTick 19999 0 12)) = frameBegun := by decide

/-- V8. -/
theorem test_reset : after (exec .reset { lastTick with frontSel := true, sched1 := schedRow2 }) = State.reset := by decide

/-! ## Witnesses: the hypotheses of the statements can be met -/

theorem witness_AcceptedByteIsMappedAndStored :
    ((onBus .receiving 0).idx.val < N ∧ (onBus .receiving 0).busState = .receiving) ∧
    (onBus .receiving 11).idx.val < N ∧ (onBus .receiving 11).busState = .receiving := by decide
theorem witness_OverflowingByteAborts :
    (onBus .receiving 12).busState = .receiving ∧ (onBus .receiving 12).idx.val = N := by decide
theorem witness_StopSortsAndPublishes :
    (withMargin 0).Legal ∧ (onBus .receiving 3).busState = .receiving := by decide
theorem witness_UnexpectedStatusAborts :
    (0x61 : Status) ≠ Config.params.scAddrW ∧ (0x61 : Status) ≠ Config.params.scData ∧
    (0x61 : Status) ≠ Config.params.scStop := by decide
theorem witness_DataAndStopOutsideATransactionDoNothing : (onBus .idle 12).busState = .idle := by decide
/-- Each case of the response: a STOP that is acknowledged, a DATA that is, an ADDR_W, an abort, and a TICK. -/
theorem witness_EveryBusEventAnswersExactlyOnce :
    (∃ t, exec .stop (onBus .receiving 0) = .next t ∧ t.busAck = true) ∧
    (∃ t, exec (.data 0) (onBus .receiving 11) = .next t ∧ t.busAck = true) ∧
    (∃ t, exec .addrW (onBus .idle 0) = .next t ∧ t.busAck = true) ∧
    (∃ t, exec (.data 0) (onBus .receiving 12) = .next t ∧ t.busReset = true) ∧
    ∃ t, exec .tick State.reset = .next t ∧ t.busAck = false ∧ t.busReset = false :=
  ⟨⟨_, rfl, by decide⟩, ⟨_, rfl, by decide⟩, ⟨_, rfl, by decide⟩, ⟨_, rfl, by decide⟩, ⟨_, rfl, by decide⟩⟩

/-- A set of parameters with a short span, and one whose span is 255 (V1, "with other parameters"). -/
theorem witness_MapIsMonotoneOntoTheDutyRange :
    Config.params.Legal ∧ (withMargin 3794).Legal ∧ { withMargin 0 with dutyMax := 1100 }.Legal ∧
    { withMargin 0 with dutyMin := 1, dutyMax := 256 }.Legal ∧
    (255 ≤ Config.params.dutyMax - Config.params.dutyMin) ∧ (0 : Byte).toNat < (255 : Byte).toNat :=
  ⟨params_legal, by decide, by decide, by decide, by decide, by decide⟩
theorem witness_MapRoundsTheFullProductDown : { withMargin 0 with dutyMax := 1100 }.Legal := by decide
theorem witness_StableArrangementIsUnique : IsStableSort rawRow2 schedRow2 := by decide
theorem witness_StableArrangementIsCompleteAndSorted :
    IsStableSort State.reset.rawDuty (resetSchedule Config.params) := by decide

theorem witness_ShortTransactionKeepsTheOtherDuties :
    ([] : List Byte).length ≤ N ∧ (List.replicate 12 (0xFF : Byte)).length ≤ N := by decide
theorem witness_OverlongTransactionPublishesNothing : N < (List.replicate 13 (0x01 : Byte)).length := by decide
/-- Two different states before, and the bytes of V3 row 4. -/
theorem witness_RepublishingIsIdempotent :
    ([0x00, 0x0A, 0x14, 0x1E, 0x28, 0x32, 0x3C, 0x46, 0x50, 0x5A, 0x64, 0x6E] : List Byte).length = N ∧
    (∃ t, service (transaction [0x00, 0x0A, 0x14, 0x1E, 0x28, 0x32, 0x3C, 0x46, 0x50, 0x5A, 0x64, 0x6E]) State.reset
      = .next t) ∧
    ∃ t, service (transaction [0x00, 0x0A, 0x14, 0x1E, 0x28, 0x32, 0x3C, 0x46, 0x50, 0x5A, 0x64, 0x6E])
      { lastTick with frontSel := true, sched1 := schedRow2 } = .next t :=
  ⟨by decide, ⟨_, rfl⟩, ⟨_, rfl⟩⟩
theorem witness_NothingIsPublishedWithoutAStop :
    ∀ i ∈ [Instr.addrW, .data 0, .data 7, .busErr 0], isBus i = true ∧ i ≠ .stop := by decide
theorem witness_UnadoptedPublishIsSuperseded :
    (List.replicate 12 (0x0A : Byte)).length = N ∧
    (∃ t, service (transaction (List.replicate 12 0x0A) ++ transaction (List.replicate 12 0xFF)) State.reset = .next t) ∧
    ∃ t, service (transaction (List.replicate 12 0xFF)) State.reset = .next t :=
  ⟨by decide, ⟨_, rfl⟩, ⟨_, rfl⟩⟩

theorem witness_SwapAdoptsAPendingUpdate : (publish State.reset).updatePending = true ∧ State.reset.updatePending = false := by
  decide
theorem witness_SwapExchangesRolesNotContents :
    (publish State.reset).updatePending = true ∧ (∃ t, exec .frameStart (publish lastTick) = .next t) ∧
    (∃ t, exec .stop (onBus .idle 0) = .next t) ∧ ¬(Instr.stop = .stop ∧ (onBus .idle 0).busState = .receiving) :=
  ⟨by decide, ⟨_, rfl⟩, ⟨_, rfl⟩, by decide⟩
/-- The flag is set by a STOP, and cleared by a FRAME_START, by the TICK that wraps, and by RESET. -/
theorem witness_OnlyStopSetsAndOnlyAFrameStartClearsPending :
    (∃ t, exec .stop (onBus .receiving 0) = .next t ∧ (onBus .receiving 0).updatePending = false ∧
      t.updatePending = true) ∧
    (∃ t, exec .frameStart (publish lastTick) = .next t ∧ (publish lastTick).updatePending = true ∧
      t.updatePending = false) ∧
    (∃ t, exec .tick (publish lastTick) = .next t ∧ t.updatePending = false ∧ StartsFrame .tick (publish lastTick)) ∧
    ∃ t, exec .reset (publish lastTick) = .next t ∧ t.updatePending = false :=
  ⟨⟨_, rfl, by decide⟩, ⟨_, rfl, by decide⟩, ⟨_, rfl, by decide⟩, ⟨_, rfl, by decide⟩⟩
theorem witness_FrontChangesOnlyAtAFrameStart :
    (∃ t, exec .stop (onBus .receiving 0) = .next t) ∧ Instr.stop ≠ .reset ∧ ¬StartsFrame .stop (onBus .receiving 0) ∧
    (∃ t, exec .tick State.reset = .next t) ∧ ¬StartsFrame .tick State.reset :=
  ⟨⟨_, rfl⟩, by decide, by decide, ⟨_, rfl⟩, by decide⟩

/-- The four cases of a TICK, each at the counts where they meet. -/
theorem witness_TickCountsAndServesItsEvents :
    ((atTick 998 1000 0).tcnt.toNat ≠ 19999 ∧ (atTick 998 1000 0).tcnt + 1 ≠ (atTick 998 1000 0).ocr) ∧
    ((atTick 999 1000 0).tcnt.toNat ≠ 19999 ∧ (atTick 999 1000 0).tcnt + 1 = (atTick 999 1000 0).ocr) ∧
    ((atTick 19998 19999 11).tcnt.toNat ≠ 19999 ∧ (atTick 19998 19999 11).tcnt + 1 = (atTick 19998 19999 11).ocr) ∧
    (lastTick.tcnt.toNat = 19999 ∧ (if lastTick.updatePending then lastTick.back else lastTick.front)[0].duty ≠ 0) ∧
    ({ lastTick with sched0 := resetSchedule { withMargin 0 with dutyMin := 0 } }.tcnt.toNat = 19999 ∧
      { lastTick with sched0 := resetSchedule { withMargin 0 with dutyMin := 0 } }.front[0].duty = 0) := by decide
theorem witness_FrameStartBeginsTheFrame : lastTick.tcnt.toNat = Config.params.frameTicks - 1 := by decide
theorem witness_CompareMatchWithNothingLeftDoesNothing : lastTick.nextIndex.val = N := by decide
theorem witness_CompareMatchServesExactlyTheElapsedEntries :
    frameBegun.nextIndex.val < N ∧ (atTick 1500 2000 11).nextIndex.val < N := by decide
/-- The last entry of a frame: the one case whose result no margin enters; the compare register is kept. -/
theorem witness_CompareMatch_last_entry :
    let t := after (exec .compareMatch { frameBegun with tcnt := 1000, nextIndex := 11 })
    t.nextIndex = 12 ∧ t.ocr = 1000 ∧ t.outPort = 0x7FF := by decide

theorem inv_lastTick : Inv Config.params lastTick := by decide
theorem inv_frameBegun : Inv Config.params frameBegun := by decide
theorem witness_NoTickRaisesBothEvents : Inv Config.params lastTick ∧ ovfHit Config.params lastTick = true :=
  ⟨inv_lastTick, by decide⟩
theorem witness_OutputsOnlyFallWithinAFrame :
    (∃ t, exec .tick frameBegun = .next t) ∧ Instr.tick ≠ .reset ∧ ¬StartsFrame .tick frameBegun :=
  ⟨⟨_, rfl⟩, by decide, by decide⟩
/-- At the last duty itself, and at the end of the frame. -/
theorem witness_EveryOutputFallsByTheLastDuty :
    (Inv Config.params (atTick 1000 1000 12) ∧
      (atTick 1000 1000 12).front[(11 : Fin N)].duty.toNat ≤ (atTick 1000 1000 12).tcnt.toNat) ∧
    Inv Config.params lastTick ∧ lastTick.front[(11 : Fin N)].duty.toNat ≤ lastTick.tcnt.toNat :=
  ⟨by decide, inv_lastTick, by decide⟩
theorem witness_FallIsNeverLateAndBoundedlyEarly : SortedByDuty schedF := by decide
/-- V6: the falls of F, at MARGIN = 0 and at MARGIN = 8 (channel 3 three ticks early, channel 9 twenty-two). -/
theorem test_fall_times :
    fallTime 0 schedF 3 = 1020 ∧ fallTime 0 schedF 9 = 1522 ∧ fallTime 8 schedF 3 = 1017 ∧ fallTime 8 schedF 9 = 1500 := by
  decide
theorem witness_WaveformBeginsAtTheWrap : Inv Config.params lastTick ∧ lastTick.tcnt.toNat = 19999 :=
  ⟨inv_lastTick, by decide⟩

/-- The first frame has the waveform, whatever the margin is: all its duties are equal. -/
theorem wave_frameBegun : WaveOk Config.params frameBegun := by
  have ho : ∀ m : Fin N, frameBegun.out[frameBegun.front[m].channel] = true := by decide
  have hd : ∀ k : Fin N, frameBegun.front[k].duty.toNat = 1000 := by decide
  intro m
  rw [ho m, fallTime, hd]
  rfl
theorem witness_EveryStepKeepsTheWaveform :
    Inv Config.params frameBegun ∧ WaveOk Config.params frameBegun ∧
    (∀ x ∈ frameBegun.inputs.head?, x.rst = false) ∧ (∃ t, step frameBegun = .next t) ∧
    ∃ t, step { frameBegun with inputs := [⟨false, true, true, 0x60, 0, true⟩] } = .next t ∧
      ∀ x ∈ { frameBegun with inputs := [⟨false, true, true, 0x60, 0, true⟩] }.inputs.head?, x.rst = false :=
  ⟨inv_frameBegun, wave_frameBegun, by decide, ⟨_, rfl⟩, ⟨_, rfl, by decide⟩⟩
theorem witness_TicksCountModuloTheFrame :
    Inv Config.params lastTick ∧ ∃ t, service (ticks 1) lastTick = .next t ∧ t.tcnt.toNat = (19999 + 1) % 20000 :=
  ⟨inv_lastTick, ⟨_, rfl, by decide⟩⟩

theorem witness_BusSideLeavesTheTimerSide :
    isBus .addrW = true ∧ isBus (.data 0) = true ∧ isBus .stop = true ∧ isBus (.busErr 0) = true := by decide
theorem witness_TimerSideLeavesTheBusSide :
    isTimer .tick = true ∧ isTimer .frameStart = true ∧ isTimer .compareMatch = true := by decide

theorem witness_DecodingInvertsEncoding :
    Config.params.Legal ∧ (Instr.busErr 0xF8).wellFormedWith Config.params = true ∧
    (Instr.data 0xFF).wellFormedWith Config.params = true := ⟨params_legal, by decide, by decide⟩
theorem witness_EveryBusWordSelectsOneClass : (withMargin 0).Legal := by decide
/-- The last channel that holds an entry and the first that does not. -/
theorem witness_EntryPackingLosesNothing :
    Entry.unpack 0xB07D0 = some ⟨11, 2000⟩ ∧ (⟨11, 2000⟩ : Entry).pack = 0xB07D0 ∧ Entry.unpack 0xC07D0 = none := by
  decide

theorem witness_StepRunsTheDecodedEvent :
    ∃ s1, fetch (State.reset.withFetchWord 16 0x8080) = (some (.bus 0x8080), s1) ∧
      decode (.bus 0x8080) = .ok (.data 0x80) := ⟨_, rfl, rfl⟩
/-- Each clause: the three values of the internal event vector, nothing delivered, and the six kinds of sample. -/
theorem witness_StepServicesOneDelivery :
    { State.reset with tev := 0b01 }.tev = 0b01 ∧ { State.reset with tev := 0b10 }.tev = 0b10 ∧
    { State.reset with tev := 0b11 }.tev = 0b11 ∧ (State.reset.tev = 0 ∧ State.reset.inputs = []) ∧
    (⟨true, true, true, 0x60, 0, true⟩ : PortSample).rst = true ∧
    (⟨false, true, false, 0x60, 0, true⟩ : PortSample).tick = true ∧
    (⟨false, false, true, 0x60, 0, true⟩ : PortSample).busEvValid = true ∧
    (⟨false, true, true, 0x60, 0, true⟩ : PortSample).busFirst = true ∧
    (⟨false, true, true, 0x60, 0, false⟩ : PortSample).busFirst = false ∧
    PortSample.quiet.rst = false ∧ PortSample.quiet.tick = false ∧ PortSample.quiet.busEvValid = false := by decide
theorem witness_CoincidingEventsAreServicedInEitherOrder :
    { State.reset with inputs := [⟨false, true, true, 0xA0, 0, true⟩] }.tev = 0 ∧
    { State.reset with inputs := [⟨false, true, true, 0xA0, 0, true⟩] }.inputs =
      ⟨false, true, true, 0xA0, 0, true⟩ :: [] := by decide
/-- A STOP at the last count of a frame: adopted at once if it is first, a frame later if the TICK is (R44). -/
theorem test_coinciding_stop_order :
    (after (Sys2Proof.core.run 2 { lastTick with
      busState := .receiving, inputs := [⟨false, true, true, 0xA0, 0, true⟩] })).frontSel = true ∧
    (after (Sys2Proof.core.run 2 { lastTick with
      busState := .receiving, inputs := [⟨false, true, true, 0xA0, 0, false⟩] })).frontSel = false := by decide

theorem witness_EveryStepKeepsTheInvariant :
    Inv Config.params { frameBegun with inputs := [⟨false, true, false, 0, 0, true⟩] } ∧
    ∃ t, step { frameBegun with inputs := [⟨false, true, false, 0, 0, true⟩] } = .next t ∧ t.tcnt = 1 :=
  ⟨by decide, ⟨_, rfl, by decide⟩⟩
theorem witness_TickKeepsTheInvariantForEveryLegalParameterSet :
    (withMargin 3794).Legal ∧ Inv (withMargin 3794) frameBegun := by decide

end Sys2Proof.Tests
end

section
/-! The bus operations (40_bus_transaction.md): what an event word decodes to by its status code, what an event does as a state
update, and SORT as a stable insertion sort. The statements settled here: O4, O7, O8, O10. -/

namespace Sys2Proof

/-! ## Decoding by status code (30_encoding.md R48, R49) -/

/-- The four ordered cases of the decoder, on a word given by its fields. -/
theorem decodeBus_busWord (p : Params) (status : Status) (d : Byte) :
    decodeBus p (busWord status d) =
      if status = p.scAddrW then .addrW
      else if status = p.scData then .data d
      else if status = p.scStop then .stop
      else .busErr status := by
  simp only [decodeBus, busStatusOf_busWord, busDataOf_busWord]

theorem decodeBus_addrW (p : Params) (d : Byte) : decodeBus p (busWord p.scAddrW d) = .addrW := by
  rw [decodeBus_busWord, if_pos rfl]

theorem decodeBus_stop {p : Params} (hp : p.Legal) (d : Byte) : decodeBus p (busWord p.scStop d) = .stop := by
  obtain ⟨-, -, -, -, -, hAddr, hData⟩ := hp
  rw [decodeBus_busWord, if_neg hAddr.symm, if_neg hData.symm, if_pos rfl]

theorem decodeBus_unexpected {p : Params} {status : Status} (h : ¬p.Expected status) (d : Byte) :
    decodeBus p (busWord status d) = .busErr status := by
  obtain ⟨hAddr, hData, hStop⟩ := not_or.mp h |>.imp_right not_or.mp
  rw [decodeBus_busWord, if_neg hAddr, if_neg hData, if_neg hStop]

theorem decodeWith_bus (p : Params) (bev : EventWord) : decodeWith p (.bus bev) = .ok (decodeBus p bev) := rfl

namespace Machine

/-! ## The meanings of the bus events -/

theorem exec_addrW (s : State) : exec .addrW s = .next (startTransaction s) := rfl

theorem exec_stop (s : State) : exec .stop s = .next (stopTransaction Config.params s) := rfl

theorem exec_busErr (status : Status) (s : State) :
    exec (.busErr status) s = .next (raiseError (.busError status) s) := rfl

theorem raiseError_eq (c : ErrorClass) (s : State) :
    raiseError c s = { s with busState := .idle, resp := some .busReset } := abort_eq s

/-! ## One insertion of SORT (41_schedule_build.md R79) -/

/-- `b'` is `b` with `e` put at position `i ≤ j` and the entries from `i` to `j - 1` moved one place up; `i` is where the scan
down from `j` stops: every entry moved has a duty above the new one's, the entry below `i` has not. -/
structure InsertedAt (e : Entry) (i j : Nat) (b b' : Schedule) : Prop where
  le : i ≤ j
  below : ∀ k (hk : k < N), k < i → b'[k] = b[k]
  here : ∀ hi : i < N, b'[i] = e
  moved : ∀ k (hk : k + 1 < N), i ≤ k → k < j → b'[k + 1] = b[k]
  moved_above : ∀ k (hk : k < N), i ≤ k → k < j → e.duty.toNat < b[k].duty.toNat
  stop : ∀ k (hk : k < N), k + 1 = i → b[k].duty.toNat ≤ e.duty.toNat

/-- Where the scan stops at once, nothing moves and `e` is written at `j`. -/
theorem insertedAt_set (e : Entry) (j : Nat) (hj : j < N) (b : Schedule)
    (hstop : ∀ k (hk : k < N), k + 1 = j → b[k].duty.toNat ≤ e.duty.toNat) :
    InsertedAt e j j b (b.set j e hj) where
  le := Nat.le_refl j
  below k hk h := Vector.getElem_set_ne _ _ (by omega)
  here _ := Vector.getElem_set_self _
  moved k hk h h' := by omega
  moved_above k hk h h' := by omega
  stop := hstop

/-- An insertion below `j` into the buffer whose entry `j` was copied up is an insertion below `j + 1`. -/
theorem InsertedAt.succ {e : Entry} {i j : Nat} {b b' : Schedule} (hj : j + 1 < N)
    (h : InsertedAt e i j (b.set (j + 1) b[j] hj) b') (habove : e.duty.toNat < b[j].duty.toNat)
    (hkept : b'[j + 1] = (b.set (j + 1) b[j] hj)[j + 1]) :
    InsertedAt e i (j + 1) b b' := by
  have hle := h.le
  have hset : ∀ k (hk : k < N), k ≤ j → (b.set (j + 1) b[j] hj)[k] = b[k] := fun k hk hkj =>
    Vector.getElem_set_ne _ _ (by omega)
  refine ⟨by omega, fun k hk hki => ?_, h.here, fun k hk hik hkj => ?_, fun k hk hik hkj => ?_, fun k hk hki => ?_⟩
  · rw [h.below k hk hki, hset k hk (by omega)]
  · obtain hlt | rfl : k < j ∨ k = j := by omega
    · rw [h.moved k hk hik hlt, hset k (by omega) (by omega)]
    · rw [hkept, Vector.getElem_set_self]
  · obtain hlt | rfl : k < j ∨ k = j := by omega
    · rw [← hset k hk (by omega)]; exact h.moved_above k hk hik hlt
    · exact habove
  · rw [← hset k hk (by omega)]; exact h.stop k hk hki

/-- What the inner loop of SORT does, whatever the buffer holds. -/
theorem shiftInsert_insertedAt (e : Entry) (j : Nat) (hj : j < N) (b : Schedule) :
    ∃ i, InsertedAt e i j b (shiftInsert e j hj b) := by
  induction j generalizing b with
  | zero => exact ⟨0, insertedAt_set e 0 hj b fun k _ hk => by omega⟩
  | succ j ih =>
    simp only [shiftInsert]
    split
    case isTrue habove =>
      obtain ⟨i, hi⟩ := ih (by omega) (b.set (j + 1) b[j] hj)
      exact ⟨i, hi.succ hj habove (shiftInsert_above _ _ _ _ _ hj (by omega))⟩
    case isFalse hstop =>
      refine ⟨j + 1, insertedAt_set e (j + 1) hj b fun k _ hk => ?_⟩
      obtain rfl : k = j := by omega
      exact Nat.le_of_not_lt hstop

/-- A position up to `j` holds an entry from below, the new entry, or an entry that moved up. -/
theorem InsertedAt.position {e : Entry} {i j : Nat} {b b' : Schedule} (h : InsertedAt e i j b b') {k : Nat} (hk : k < N)
    (hkj : k ≤ j) :
    (k < i ∧ b'[k] = b[k]) ∨ (k = i ∧ b'[k] = e) ∨ ∃ m, ∃ _ : m < N, k = m + 1 ∧ i ≤ m ∧ m < j ∧ b'[k] = b[m] := by
  obtain hlt | rfl | hgt := Nat.lt_trichotomy k i
  · exact .inl ⟨hlt, h.below k hk hlt⟩
  · exact .inr (.inl ⟨rfl, h.here hk⟩)
  · obtain ⟨m, rfl⟩ : ∃ m, k = m + 1 := ⟨k - 1, by omega⟩
    exact .inr (.inr ⟨m, by omega, rfl, by omega, by omega, h.moved m hk (by omega) (by omega)⟩)

/-! ## The invariant of SORT's outer loop (41_schedule_build.md R80) -/

/-- The first `n` entries of `b` are the stable arrangement of the channels below `n`. -/
structure SortedPrefix (raw : Vector Ticks N) (n : Nat) (b : Schedule) : Prop where
  present : ∀ c (hc : c < N), c < n → ∃ k, ∃ hk : k < N, k < n ∧ b[k] = ⟨⟨c, hc⟩, raw[c]⟩
  channel_lt : ∀ k (hk : k < N), k < n → b[k].channel.val < n
  ordered : ∀ j k (hk : k < N) (hjk : j < k), k < n → (b[j]'(hjk.trans hk)).Before b[k]

theorem Entry.Before.duty_le {e f : Entry} (h : e.Before f) : e.duty.toNat ≤ f.duty.toNat := by
  obtain h | ⟨h, -⟩ := h
  · exact h.le
  · rw [h]

/-- Among equal duties the lower channel is first. -/
theorem Entry.before_of_duty_le {e f : Entry} (hd : e.duty.toNat ≤ f.duty.toNat) (hc : e.channel < f.channel) :
    e.Before f := by
  obtain h | h := Nat.lt_or_eq_of_le hd
  · exact .inl h
  · exact .inr ⟨BitVec.eq_of_toNat_eq h, hc⟩

/-- The entries below the place of insertion come before the new entry: the scan stopped at the last of them, and the channels
inserted so far are lower than the new one. -/
theorem SortedPrefix.before_new {raw : Vector Ticks N} {n i : Nat} {b b' : Schedule} {e : Entry} (hb : SortedPrefix raw n b)
    (h : InsertedAt e i n b b') (he : e.channel.val = n) {k : Nat} (hk : k < N) (hki : k < i) : b[k].Before e := by
  have hle := h.le
  have hen := e.channel.isLt
  obtain ⟨m, rfl⟩ : ∃ m, i = m + 1 := ⟨i - 1, by omega⟩
  have hstop := h.stop m (by omega) rfl
  have hchan : b[k].channel < e.channel := Fin.lt_def.mpr (he ▸ hb.channel_lt k hk (by omega))
  obtain hkm | rfl : k < m ∨ k = m := by omega
  · exact Entry.before_of_duty_le ((hb.ordered k m (by omega) hkm (by omega)).duty_le.trans hstop) hchan
  · exact Entry.before_of_duty_le hstop hchan

/-- Inserting channel `n` arranges one entry more. -/
theorem SortedPrefix.insert {raw : Vector Ticks N} {n i : Nat} {b b' : Schedule} (hn : n < N) (hb : SortedPrefix raw n b)
    (h : InsertedAt ⟨⟨n, hn⟩, raw[n]⟩ i n b b') : SortedPrefix raw (n + 1) b' where
  present c hc hcn := by
    have hle := h.le
    obtain hlt | rfl : c < n ∨ c = n := by omega
    · obtain ⟨k, hk, hkn, hbk⟩ := hb.present c hc hlt
      by_cases hki : k < i
      · exact ⟨k, hk, by omega, (h.below k hk hki).trans hbk⟩
      · exact ⟨k + 1, by omega, by omega, (h.moved k (by omega) (by omega) hkn).trans hbk⟩
    · exact ⟨i, by omega, by omega, h.here (by omega)⟩
  channel_lt k hk hkn := by
    obtain ⟨hki, hbk⟩ | ⟨-, hbk⟩ | ⟨m, hm, -, -, hmn, hbk⟩ := h.position hk (by omega)
    · rw [hbk]; exact (hb.channel_lt k hk (hki.trans_le h.le)).trans (Nat.lt_succ_self n)
    · rw [hbk]; exact Nat.lt_succ_self n
    · rw [hbk]; exact (hb.channel_lt m hm hmn).trans (Nat.lt_succ_self n)
  ordered j k hk hjk hkn := by
    obtain ⟨hki, hbk⟩ | ⟨rfl, hbk⟩ | ⟨m, hm, rfl, him, hmn, hbk⟩ := h.position hk (by omega)
    · -- both below the place of insertion
      rw [hbk, h.below j (by omega) (by omega)]
      exact hb.ordered j k hk hjk (hki.trans_le h.le)
    · -- the second is the new entry
      rw [hbk, h.below j (by omega) hjk]
      exact hb.before_new h rfl (by omega) hjk
    · -- the second moved up from `m`
      rw [hbk]
      obtain ⟨hji, hbj⟩ | ⟨-, hbj⟩ | ⟨l, hl, rfl, -, -, hbj⟩ := h.position (hjk.trans hk) (by omega)
      · rw [hbj]; exact hb.ordered j m hm (by omega) hmn
      · rw [hbj]; exact .inl (h.moved_above m hm him hmn)
      · rw [hbj]; exact hb.ordered l m hm (by omega) hmn

theorem sortUpTo_sortedPrefix (raw : Vector Ticks N) (n : Nat) (hn : n ≤ N) (b : Schedule) :
    SortedPrefix raw n (sortUpTo raw n hn b) := by
  induction n with
  | zero => exact ⟨fun _ _ h => by omega, fun _ _ h => by omega, fun _ _ _ _ h => by omega⟩
  | succ n ih =>
    obtain ⟨i, hi⟩ := shiftInsert_insertedAt ⟨⟨n, hn⟩, raw[n]⟩ n hn (sortUpTo raw n (Nat.le_of_succ_le hn) b)
    exact (ih (Nat.le_of_succ_le hn)).insert hn hi

/-- With all `N` channels arranged, the buffer is the stable sort. -/
theorem SortedPrefix.isStableSort {raw : Vector Ticks N} {b : Schedule} (h : SortedPrefix raw N b) : IsStableSort raw b := by
  refine ⟨fun c => ?_, fun j k hjk => h.ordered j.val k.val k.isLt hjk k.isLt⟩
  obtain ⟨k, hk, -, hbk⟩ := h.present c.val c.isLt c.isLt
  exact ⟨⟨k, hk⟩, hbk⟩

/-- SORT makes the stable arrangement, whatever the buffer held. -/
theorem sortSchedule_isStableSort (raw : Vector Ticks N) (b : Schedule) : IsStableSort raw (sortSchedule raw b) := by
  have h := sortUpTo_sortedPrefix raw N (Nat.le_refl N) b
  rw [sortSchedule]
  exact h.isStableSort

/-! ## The statements -/

/-- Settles O7: the code SC_STOP differs from the two the decoder tries first, and the schedule STOP writes is SORT's, a stable
arrangement by induction over the channels inserted. -/
theorem stopSortsAndPublishes : Obligations.StopSortsAndPublishes := by
  unfold Obligations.StopSortsAndPublishes
  constructor
  · intro p hp d
    rw [decodeWith_bus, decodeBus_stop hp]
  · intro s hs
    exact ⟨sortSchedule s.rawDuty s.back, sortSchedule_isStableSort _ _, by rw [exec_stop, stopTransaction_receiving _ hs]⟩

/-- Settles O4: SC_ADDR_W is the first code the decoder tries, and ADDR_W makes no test of the state. -/
theorem addrWStartsATransaction : Obligations.AddrWStartsATransaction := by
  unfold Obligations.AddrWStartsATransaction
  constructor
  · intro p d
    rw [decodeWith_bus, decodeBus_addrW]
  · intro s
    rw [exec_addrW, startTransaction_eq]

/-- Settles O8: a status outside the three codes falls through the decoder, and BUS_ERR raises the bus error in every state. -/
theorem unexpectedStatusAborts : Obligations.UnexpectedStatusAborts := by
  unfold Obligations.UnexpectedStatusAborts
  constructor
  · intro p status hAddr hData hStop d
    have hUnexpected : ¬p.Expected status := not_or.mpr ⟨hAddr, not_or.mpr ⟨hData, hStop⟩⟩
    rw [decodeWith_bus, decodeBus_unexpected hUnexpected]
  · intro status s
    rw [exec_busErr, raiseError_eq]

/-- Settles O10: both error classes perform the same ABORT. -/
theorem raisingAnErrorWritesBusStateOnly : Obligations.RaisingAnErrorWritesBusStateOnly :=
  raiseError_eq

end Machine
end Sys2Proof
end

section
/-! SWAP and the two schedule instances (42_schedule_swap.md): the two cases of SWAP, and which events leave the entries of both
instances alone. The statements settled here: O23, O24. -/

namespace Sys2Proof.Machine

/-! ## The two cases of SWAP (R86) -/

theorem swap_pending {s : State} (h : s.updatePending = true) :
    swap s = { s with frontSel := !s.frontSel, updatePending := false } := by
  rw [swap, if_pos h]

theorem swap_not_pending {s : State} (h : s.updatePending = false) : swap s = s := by
  rw [swap, h, if_neg Bool.false_ne_true]

/-! ## The meanings of the remaining events -/

theorem exec_data (raw : Byte) (s : State) : exec (.data raw) s = .next (dataByte Config.params raw s) := rfl

theorem exec_tick (s : State) : exec .tick s = .next (countTick Config.params (respond none s)) := rfl

theorem exec_frameStart (s : State) : exec .frameStart s = .next (frameStart (respond none s)) := rfl

theorem exec_compareMatch (s : State) :
    exec .compareMatch s = .next (compareMatch Config.params s.tcnt.toNat (respond none s)) := rfl

/-! ## Operations that keep the entries of both instances (R88) -/

/-- Both schedule instances hold in `t` what they held in `s`, whichever of them is the front. -/
abbrev SameInstances (s t : State) : Prop := t.sched0 = s.sched0 ∧ t.sched1 = s.sched1

theorem SameInstances.trans {s t u : State} : SameInstances s t → SameInstances t u → SameInstances s u
  | ⟨hst0, hst1⟩, ⟨htu0, htu1⟩ => ⟨htu0.trans hst0, htu1.trans hst1⟩

theorem swap_sameInstances (s : State) : SameInstances s (swap s) :=
  ⟨swap_sched0 s, swap_sched1 s⟩

theorem abort_sameInstances (s : State) : SameInstances s (abort s) := by
  rw [abort_eq]
  exact ⟨rfl, rfl⟩

theorem dataByte_sameInstances (p : Params) (raw : Byte) (s : State) : SameInstances s (dataByte p raw s) := by
  by_cases hb : s.busState = .receiving
  · by_cases hi : s.idx.val < N
    · rw [dataByte_accepted p raw hb hi]
      exact ⟨storeRaw_sched0 (mapDuty p raw) s hi, storeRaw_sched1 (mapDuty p raw) s hi⟩
    · rw [dataByte_full p raw hb hi]
      exact abort_sameInstances s
  · rw [dataByte_unexpected p raw hb]
    exact abort_sameInstances s

theorem frameStart_sameInstances (s : State) : SameInstances s (frameStart s) := by
  rw [frameStart_eq]
  exact ⟨rfl, rfl⟩

theorem compareMatch_sameInstances (p : Params) (t0 : Nat) (s : State) : SameInstances s (compareMatch p t0 s) :=
  ⟨compareMatch_sched0 p t0 s, compareMatch_sched1 p t0 s⟩

theorem countTick_sameInstances (p : Params) (s : State) : SameInstances s (countTick p s) := by
  have hFrame := frameStart_sameInstances (setTcnt 0 s)
  obtain ⟨-, -, hEq⟩ | ⟨-, -, hEq⟩ | ⟨-, -, hEq⟩ | ⟨-, -, hEq⟩ := countTick_cases p s <;> rw [hEq]
  · exact ⟨setTcnt_sched0 _ s, setTcnt_sched1 _ s⟩
  · exact compareMatch_sameInstances p _ (setTcnt (s.tcnt + 1) s)
  · exact hFrame
  · exact hFrame.trans (compareMatch_sameInstances p 0 (frameStart (setTcnt 0 s)))

/-- Only RESET and the STOP that sorts write an entry of a schedule instance. -/
theorem exec_sameInstances {i : Instr} {s t : State} (h : exec i s = .next t) (hReset : i ≠ .reset)
    (hStop : ¬(i = .stop ∧ s.busState = .receiving)) : SameInstances s t := by
  cases i with
  | reset => exact absurd rfl hReset
  | tick =>
    cases (exec_tick s).symm.trans h
    exact countTick_sameInstances _ (respond none s)
  | addrW =>
    cases (exec_addrW s).symm.trans h
    rw [startTransaction_eq]
    exact ⟨rfl, rfl⟩
  | data raw =>
    cases (exec_data raw s).symm.trans h
    exact dataByte_sameInstances _ raw s
  | stop =>
    cases (exec_stop s).symm.trans h
    have hb : s.busState ≠ .receiving := fun hb => hStop ⟨rfl, hb⟩
    rw [stopTransaction_unexpected _ hb]
    exact abort_sameInstances s
  | busErr status =>
    cases (exec_busErr status s).symm.trans h
    exact abort_sameInstances s
  | frameStart =>
    cases (exec_frameStart s).symm.trans h
    exact frameStart_sameInstances (respond none s)
  | compareMatch =>
    cases (exec_compareMatch s).symm.trans h
    exact compareMatch_sameInstances _ _ (respond none s)

/-! ## The statements -/

/-- Settles O24: SWAP writes no entry, so inverting `front_sel` exchanges the roles; of the events only RESET and the STOP that
sorts write an entry, event by event. -/
theorem swapExchangesRolesNotContents : Obligations.SwapExchangesRolesNotContents := by
  unfold Obligations.SwapExchangesRolesNotContents
  constructor
  · intro s
    obtain ⟨h0, h1⟩ := swap_sameInstances s
    refine ⟨h0, h1, fun hPending => ⟨?_, ?_⟩⟩
    · rw [swap_front, if_pos hPending]
    · rw [swap_back, if_pos hPending]
  · intro i s t h hReset hStop
    exact exec_sameInstances h hReset hStop

/-- Settles O23: the two cases of SWAP's test. -/
theorem swapAdoptsAPendingUpdate : Obligations.SwapAdoptsAPendingUpdate := by
  unfold Obligations.SwapAdoptsAPendingUpdate
  intro s
  exact ⟨swap_pending, swap_not_pending⟩

end Sys2Proof.Machine
end

section
/-! The start of a frame (43_pulse_engine.md R92): which word selects FRAME_START, when the count of TICK performs it, and what
it leaves active. The statement settled here: O28. -/

namespace Sys2Proof

/-- Bit 0 of the internal event vector selects FRAME_START, whatever bit 1 is (30_encoding.md R55). -/
theorem decode_tmr_bit0 {tev : BitVec 2} (h : tev.getLsbD 0 = true) : decode (.tmr tev) = .ok .frameStart := by
  rw [decode, decodeWith, decodeTmr, if_pos h]

namespace Machine

theorem setTcnt_eq (c : Ticks) (s : State) : setTcnt c s = { s with tcnt := c } := rfl

/-- The advance that wraps the counter is a frame start at count 0 (R91). -/
theorem advance_wrap {p : Params} {s : State} (h : ovfHit p s = true) : advance p s = frameStart (setTcnt 0 s) := by
  rw [advance, if_pos h]

theorem frameStart_out_active (s : State) (c : Fin N) : (frameStart s).out[c] = true := by
  rw [frameStart_eq]
  exact Vector.getElem_replicate c.isLt

/-! ## The statement -/

/-- Settles O28: the decoder tests bit 0 of `tev` first, the wrap is `ovf_hit`, and FRAME_START's own equation gives the frame. -/
theorem frameStartBeginsTheFrame : Obligations.FrameStartBeginsTheFrame := by
  unfold Obligations.FrameStartBeginsTheFrame
  refine ⟨decode_tmr_bit0 (by decide), fun p s hWrap => ?_, fun s => ?_⟩
  · have hOvf : ovfHit p s = true := decide_eq_true hWrap
    rw [advance_wrap hOvf, setTcnt_eq]
  · refine ⟨frameStart (respond none s), exec_frameStart s, frameStart_out_active _, ?_⟩
    rw [frameStart_eq]
    rfl

end Machine
end Sys2Proof
end

section
/-! Encoding (30_encoding.md): decoding inverts encoding, every event word selects one class, and the packing of an
entry loses nothing. The statements settled here: O40, O41, O42, O43, O44. -/

namespace Sys2Proof

/-! ## Decoding by status code (R48, R49) -/

theorem decodeBus_data {p : Params} (hp : p.Legal) (d : Byte) : decodeBus p (busWord p.scData d) = .data d := by
  obtain ⟨-, -, -, -, hAddr, -, -⟩ := hp
  rw [decodeBus_busWord, if_neg hAddr.symm, if_pos rfl]

theorem wellFormedWith_busErr {p : Params} {status : Status} :
    (Instr.busErr status).wellFormedWith p = true ↔ ¬p.Expected status := by
  rw [Instr.wellFormedWith, Bool.not_eq_true', decide_eq_false_iff_not]

theorem isBus_decodeBus (p : Params) (bev : EventWord) : Machine.isBus (decodeBus p bev) = true := by
  unfold decodeBus
  split_ifs <;> rfl

/-- Settles O40: the decoder reads back the status code the encoder wrote, in each of the four classes; on the other
ports the word is asserted. -/
theorem decodingInvertsEncoding : Obligations.DecodingInvertsEncoding := by
  unfold Obligations.DecodingInvertsEncoding
  intro p hp i hi
  cases i with
  | reset => rfl
  | tick => rfl
  | addrW => rw [encodeWith, decodeWith_bus, decodeBus_addrW]
  | data raw => rw [encodeWith, decodeWith_bus, decodeBus_data hp]
  | stop => rw [encodeWith, decodeWith_bus, decodeBus_stop hp]
  | busErr status => rw [encodeWith, decodeWith_bus, decodeBus_unexpected (wellFormedWith_busErr.mp hi)]
  | frameStart => rfl
  | compareMatch => rfl

/-! ## The four classes of an event word (R49) -/

/-- An event word that decodes to `i` names a well-formed event, and `i`'s own word has its status byte, and its data
byte where the status says DATA. -/
abbrev WordAgrees (p : Params) (bev : EventWord) (i : Instr) : Prop :=
  i.wellFormedWith p = true ∧
  ∃ data : Byte, encodeWith p i = .bus (busWord (busStatusOf bev) data) ∧
    (busStatusOf bev = p.scData → busWord (busStatusOf bev) data = bev)

theorem wordAgrees_decodeBus {p : Params} (hp : p.Legal) (bev : EventWord) : WordAgrees p bev (decodeBus p bev) := by
  obtain ⟨-, -, -, -, hAddrData, -, hDataStop⟩ := hp
  unfold decodeBus
  split_ifs with hAddr hData hStop
  · exact ⟨rfl, 0, by rw [encodeWith, hAddr], fun h => absurd (hAddr.symm.trans h) hAddrData⟩
  · exact ⟨rfl, busDataOf bev, by rw [encodeWith, hData], fun _ => busWord_fields bev⟩
  · exact ⟨rfl, 0, by rw [encodeWith, hStop], fun h => absurd (h.symm.trans hStop) hDataStop⟩
  · have hUnexpected : ¬p.Expected (busStatusOf bev) := not_or.mpr ⟨hAddr, not_or.mpr ⟨hData, hStop⟩⟩
    exact ⟨wellFormedWith_busErr.mpr hUnexpected, 0, rfl, fun h => absurd h hData⟩

/-- The status byte decides the class: the three codes differ, so each test of the decoder is exact. -/
theorem decodeBus_eq_iff {p : Params} (hp : p.Legal) (bev : EventWord) :
    (decodeBus p bev = .addrW ↔ busStatusOf bev = p.scAddrW) ∧
    (decodeBus p bev = .data (busDataOf bev) ↔ busStatusOf bev = p.scData) ∧
    (decodeBus p bev = .stop ↔ busStatusOf bev = p.scStop) ∧
    (decodeBus p bev = .busErr (busStatusOf bev) ↔ ¬p.Expected (busStatusOf bev)) := by
  obtain ⟨-, -, -, -, hAddrData, hAddrStop, hDataStop⟩ := hp
  unfold decodeBus Params.Expected
  split_ifs with hAddr hData hStop
  · simp [hAddr, hAddrData, hAddrStop]
  · simp [hData, hAddrData.symm, hDataStop]
  · simp [hStop, hAddrStop.symm, hDataStop.symm]
  · simp [hAddr, hData, hStop]

/-- Settles O41: the tests of the decoder are exact, and the class they select keeps the status byte of the word. -/
theorem everyBusWordSelectsOneClass : Obligations.EveryBusWordSelectsOneClass := by
  unfold Obligations.EveryBusWordSelectsOneClass
  intro p hp bev
  obtain ⟨hWf, hWord⟩ := wordAgrees_decodeBus hp bev
  obtain ⟨hAddr, hData, hStop, hErr⟩ := decodeBus_eq_iff hp bev
  exact ⟨hWf, isBus_decodeBus p bev, hAddr, hData, hStop, hErr, hWord⟩

/-- Settles O42: each word read by its port and its status byte. -/
theorem writtenOutWordsDecode : Obligations.WrittenOutWordsDecode := by
  unfold Obligations.WrittenOutWordsDecode
  decide

namespace Machine

/-! ## The packing of an entry (R53) and the output port (R59) -/

theorem unpack_eq_none_iff (bits : BitVec 20) : Entry.unpack bits = none ↔ 12 ≤ (bits.extractLsb' 16 4).toNat := by
  simp only [Entry.unpack, dite_eq_right_iff, reduceCtorEq, imp_false, Nat.not_lt, N_eq]

theorem unpack_eq_some_iff (bits : BitVec 20) (e : Entry) :
    Entry.unpack bits = some e ↔ e.channel.val = bits.toNat / 65536 ∧ e.duty.toNat = bits.toNat % 65536 := by
  have hChannel := e.channel.isLt
  rw [← toNat_channelField, ← toNat_dutyField]
  simp only [Entry.unpack]
  split_ifs with h
  · obtain ⟨channel, duty⟩ := e
    simp only [Option.some.injEq, Entry.mk.injEq, Fin.ext_iff, ← BitVec.toNat_inj, eq_comm]
  · simp only [false_iff]
    omega

/-- Settles O43: as numbers, the channel is the quotient and the duty the remainder of the element by 2^16. -/
theorem entryPackingLosesNothing : Obligations.EntryPackingLosesNothing := by
  unfold Obligations.EntryPackingLosesNothing
  refine ⟨fun e => ?_, fun bits e h => ?_, unpack_eq_none_iff⟩
  · have hDuty := e.duty.isLt
    rw [unpack_eq_some_iff, toNat_pack]
    omega
  · obtain ⟨hChannel, hDuty⟩ := (unpack_eq_some_iff bits e).mp h
    apply BitVec.eq_of_toNat_eq
    rw [toNat_pack]
    omega

/-- Settles O44: the port is written out of the outputs, least significant bit first. -/
theorem outputPortIsNumberedByChannel : Obligations.OutputPortIsNumberedByChannel := by
  unfold Obligations.OutputPortIsNumberedByChannel
  intro s c
  rw [State.outPort, BitVec.getLsbD_ofFnLE, dif_pos c.isLt]

end Machine
end Sys2Proof
end

section
/-! COMPARE_MATCH (43_pulse_engine.md R93 to R96): one iteration of its loop, and what an invocation serves. The
statements settled here: O29, O30. -/

namespace Sys2Proof.Machine

/-! ## One iteration of the loop (R93) -/

/-- The entry at the cursor served: its output falls, and the cursor advances. -/
def serveNext (s : State) (h : s.nextIndex.val < N) : State := advanceCursor (deactivate s.front[s.nextIndex.val].channel s)

section
variable (p : Params) (fuel t : Nat) {s : State} (h : s.nextIndex.val < N)

@[simp] theorem serveNext_front : (serveNext s h).front = s.front := rfl

@[simp] theorem serveNext_nextIndex : (serveNext s h).nextIndex.val = s.nextIndex.val + 1 :=
  Nat.min_eq_left h

theorem serveNext_out (c : Fin N) : (serveNext s h).out[c] = true ↔
    s.out[c] = true ∧ s.front[s.nextIndex.val].channel ≠ c := by
  show (s.out.set s.front[s.nextIndex.val].channel.val false)[c.val] = true ↔ _
  rw [Vector.getElem_set]
  split_ifs with hc
  · simp [Fin.ext hc]
  · exact (and_iff_left fun he => hc (congrArg Fin.val he)).symm

theorem walk_last (h1 : ¬(serveNext s h).nextIndex.val < N) : walk p (fuel + 1) t s = serveNext s h := by
  rw [walk, dif_pos h]
  exact dif_neg h1

theorem walk_arms (h1 : (serveNext s h).nextIndex.val < N)
    (hd : ¬s.front[(serveNext s h).nextIndex.val].duty.toNat ≤ t + p.margin) :
    walk p (fuel + 1) t s = arm s.front[(serveNext s h).nextIndex.val].duty (serveNext s h) := by
  rw [walk, dif_pos h]
  exact (dif_pos h1).trans (if_neg hd)

theorem walk_goes_on (h1 : (serveNext s h).nextIndex.val < N)
    (hd : s.front[(serveNext s h).nextIndex.val].duty.toNat ≤ t + p.margin) :
    walk p (fuel + 1) t s = walk p fuel (t + p.margin) (serveNext s h) := by
  rw [walk, dif_pos h]
  exact (dif_pos h1).trans (if_pos hd)

end

/-! ## What an invocation serves (R93 to R95) -/

/-- From `s` to `t`, with the cached counter at `t0`, the `m` entries from the cursor on are served and no others:
those after the first had elapsed, as `t0` advances by the margin per entry; the next entry is still ahead and armed,
or none is left. -/
structure Serves (p : Params) (t0 m : Nat) (s t : State) : Prop where
  pos : 0 < m
  cursor : t.nextIndex.val = s.nextIndex.val + m
  elapsed : ∀ q : Fin N, s.nextIndex.val < q.val → q.val < s.nextIndex.val + m →
    s.front[q].duty.toNat ≤ t0 + (q.val - s.nextIndex.val) * p.margin
  armed : ∀ q : Fin N, q.val = s.nextIndex.val + m →
    t0 + m * p.margin < s.front[q].duty.toNat ∧ t.ocr = s.front[q].duty
  ocr_kept : t.nextIndex.val = N → t.ocr = s.ocr
  out : ∀ c : Fin N, t.out[c] = true ↔ s.out[c] = true ∧
    ∀ q : Fin N, s.nextIndex.val ≤ q.val → q.val < s.nextIndex.val + m → s.front[q].channel ≠ c

/-- The condition on the entries served, when only the one at the cursor is. -/
theorem forall_served_one_iff {s : State} (h : s.nextIndex.val < N) (c : Fin N) :
    (∀ q : Fin N, s.nextIndex.val ≤ q.val → q.val < s.nextIndex.val + 1 → s.front[q].channel ≠ c) ↔
      s.front[s.nextIndex.val].channel ≠ c := by
  refine ⟨fun hq => hq ⟨_, h⟩ (Nat.le_refl _) (Nat.lt_succ_self _), fun hc q hle hlt => ?_⟩
  obtain rfl : q = ⟨s.nextIndex.val, h⟩ := Fin.ext (Nat.le_antisymm (Nat.le_of_lt_succ hlt) hle)
  exact hc

/-- An iteration that serves the last entry of the frame. -/
theorem serves_last (p : Params) (t0 : Nat) {s : State} (h : s.nextIndex.val < N) (h1 : ¬s.nextIndex.val + 1 < N) :
    Serves p t0 1 s (serveNext s h) where
  pos := Nat.one_pos
  cursor := serveNext_nextIndex h
  elapsed q hlt hlt' := by omega
  armed q hq := absurd (hq ▸ q.isLt) h1
  ocr_kept _ := rfl
  out c := by rw [serveNext_out, forall_served_one_iff h]

/-- An iteration that stops at an entry still ahead. -/
theorem serves_arms {p : Params} {t0 : Nat} {s : State} (h : s.nextIndex.val < N) (h1 : s.nextIndex.val + 1 < N)
    (hd : t0 + p.margin < s.front[s.nextIndex.val + 1].duty.toNat) :
    Serves p t0 1 s (arm s.front[s.nextIndex.val + 1].duty (serveNext s h)) where
  pos := Nat.one_pos
  cursor := serveNext_nextIndex h
  elapsed q hlt hlt' := by omega
  armed q hq := by
    obtain rfl : q = ⟨s.nextIndex.val + 1, h1⟩ := Fin.ext hq
    exact ⟨by rwa [Nat.one_mul], rfl⟩
  ocr_kept hN := absurd (serveNext_nextIndex h ▸ hN) h1.ne
  out c := by
    rw [arm_out, serveNext_out, forall_served_one_iff h]

/-- An iteration that goes on: the entries the rest serves, with the one at the cursor before them. -/
theorem Serves.cons {p : Params} {t0 m : Nat} {s t : State} (h : s.nextIndex.val < N) (h1 : s.nextIndex.val + 1 < N)
    (hd : s.front[s.nextIndex.val + 1].duty.toNat ≤ t0 + p.margin)
    (hs : Serves p (t0 + p.margin) m (serveNext s h) t) : Serves p t0 (m + 1) s t where
  pos := Nat.succ_pos m
  cursor := by rw [hs.cursor, serveNext_nextIndex]; omega
  elapsed q hlt hlt' := by
    obtain ⟨j, hj⟩ : ∃ j, q.val = s.nextIndex.val + 1 + j := ⟨q.val - (s.nextIndex.val + 1), by omega⟩
    have hMargin : t0 + (q.val - s.nextIndex.val) * p.margin = t0 + p.margin + j * p.margin := by
      rw [hj, show s.nextIndex.val + 1 + j - s.nextIndex.val = j + 1 by omega]
      ring
    rw [hMargin]
    obtain rfl | hpos := Nat.eq_zero_or_pos j
    · obtain rfl : q = ⟨s.nextIndex.val + 1, h1⟩ := Fin.ext hj
      simpa using hd
    · have := hs.elapsed q (by rw [serveNext_nextIndex]; omega) (by rw [serveNext_nextIndex]; omega)
      rwa [serveNext_nextIndex, show q.val - (s.nextIndex.val + 1) = j by omega] at this
  armed q hq := by
    obtain ⟨hAhead, hOcr⟩ := hs.armed q (by rw [serveNext_nextIndex]; omega)
    exact ⟨by rw [Nat.succ_mul]; rw [serveNext_front] at hAhead; omega, hOcr⟩
  ocr_kept := hs.ocr_kept
  out c := by
    rw [hs.out, serveNext_out, serveNext_nextIndex, serveNext_front, and_assoc, and_congr_right_iff]
    intro _
    refine ⟨fun ⟨hFirst, hRest⟩ q hle hlt => ?_, fun hAll => ⟨?_, fun q hle hlt => hAll q (by omega) (by omega)⟩⟩
    · obtain heq | hgt := Nat.eq_or_lt_of_le hle
      · obtain rfl : q = ⟨s.nextIndex.val, h⟩ := Fin.ext heq.symm
        exact hFirst
      · exact hRest q hgt (by omega)
    · exact hAll ⟨_, h⟩ (Nat.le_refl _) (by simp)

/-- The loop serves at least one entry whenever one is left and there is fuel for all of them. -/
theorem walk_serves (p : Params) (fuel t0 : Nat) {s : State} (h : s.nextIndex.val < N) (hf : N ≤ s.nextIndex.val + fuel) :
    ∃ m, Serves p t0 m s (walk p fuel t0 s) := by
  induction fuel generalizing t0 s with
  | zero => omega
  | succ fuel ih =>
    have hCursor := serveNext_nextIndex h
    by_cases h1 : (serveNext s h).nextIndex.val < N
    · by_cases hd : s.front[(serveNext s h).nextIndex.val].duty.toNat ≤ t0 + p.margin
      · rw [walk_goes_on p fuel t0 h h1 hd]
        obtain ⟨m, hm⟩ := ih (t0 + p.margin) h1 (by omega)
        simp only [hCursor] at h1 hd
        exact ⟨m + 1, hm.cons h h1 hd⟩
      · rw [walk_arms p fuel t0 h h1 hd]
        simp only [hCursor] at h1 hd ⊢
        exact ⟨1, serves_arms h h1 (Nat.lt_of_not_le hd)⟩
    · rw [walk_last p fuel t0 h h1]
      exact ⟨1, serves_last p t0 h (hCursor ▸ h1)⟩

theorem compareMatch_serves (p : Params) (t0 : Nat) {s : State} (h : s.nextIndex.val < N) :
    ∃ m, Serves p t0 m s (compareMatch p t0 s) :=
  walk_serves p N t0 h (Nat.le_add_left _ _)

/-- With nothing left in the frame COMPARE_MATCH is the identity (R96). -/
theorem compareMatch_done (p : Params) (t0 : Nat) {s : State} (h : s.nextIndex.val = N) : compareMatch p t0 s = s :=
  walk_done p N t0 (by omega)

/-! ## The statements -/

/-- Settles O29: the loop tests the cursor before it does anything. -/
theorem compareMatchWithNothingLeftDoesNothing : Obligations.CompareMatchWithNothingLeftDoesNothing := by
  unfold Obligations.CompareMatchWithNothingLeftDoesNothing
  refine ⟨fun p t0 s => compareMatch_done p t0, fun s h => ?_⟩
  rw [exec_compareMatch, compareMatch_done _ _ (s := respond none s) h]
  rfl

/-- Settles O30, by induction on the fuel of the loop: an iteration puts one entry before those that the rest of it
serves. -/
theorem compareMatchServesExactlyTheElapsedEntries : Obligations.CompareMatchServesExactlyTheElapsedEntries := by
  unfold Obligations.CompareMatchServesExactlyTheElapsedEntries
  refine ⟨exec_compareMatch, fun p t0 s h => ?_⟩
  obtain ⟨m, hm⟩ := compareMatch_serves p t0 h
  exact ⟨m, _, rfl, hm.pos, hm.cursor, hm.elapsed, hm.armed, hm.ocr_kept, hm.out, compareMatch_frame p t0 s⟩

end Sys2Proof.Machine
end

section
/-! What an event can do (20_memory.md R37, 60_exceptions.md R116): the four outcomes of a bus event, what the timer
side keeps, and what an event other than a frame start keeps. The statements settled here: O5, O6, O9, O11, O25, O26,
O27, O32, O38, O39. -/

namespace Sys2Proof.Machine

/-- No arm of the dispatch faults or refuses (60_exceptions.md R114). -/
theorem exec_next (i : Instr) (s : State) : ∃ t, exec i s = .next t := by
  cases i <;> exact ⟨_, rfl⟩

/-! ## The bus events (40_bus_transaction.md R65 to R71) -/

/-- The bus events that are answered ACK (30_encoding.md R51): an ADDR_W, and in RECEIVING a STOP, or a DATA while
there is room. -/
abbrev Accepted (i : Instr) (s : State) : Prop :=
  i = .addrW ∨ (s.busState = .receiving ∧ (i = .stop ∨ (s.idx.val < N ∧ ∃ raw, i = .data raw)))

theorem exec_data_accepted (raw : Byte) {s : State} (hb : s.busState = .receiving) (hi : s.idx.val < N) :
    exec (.data raw) s = .next (respond (some .ack) (storeRaw (mapDuty Config.params raw) s hi)) := by
  rw [exec_data, dataByte_accepted _ raw hb hi]

theorem exec_stop_receiving {s : State} (hb : s.busState = .receiving) :
    exec .stop s = .next { setBack (sortSchedule s.rawDuty s.back) s with
      updatePending := true, busState := .idle, resp := some .ack } := by
  rw [exec_stop, stopTransaction_receiving _ hb]

/-- A bus event that is not accepted aborts. -/
theorem exec_bus_rejected {i : Instr} {s : State} (hi : isBus i = true) (h : ¬Accepted i s) : exec i s = .next (abort s) := by
  cases i with
  | reset => cases hi
  | tick => cases hi
  | addrW => exact absurd (.inl rfl) h
  | data raw =>
    by_cases hb : s.busState = .receiving
    · have hFull : ¬s.idx.val < N := fun hlt => h (.inr ⟨hb, .inr ⟨hlt, raw, rfl⟩⟩)
      rw [exec_data, dataByte_full _ raw hb hFull]
    · rw [exec_data, dataByte_unexpected _ raw hb]
  | stop =>
    have hb : s.busState ≠ .receiving := fun hb => h (.inr ⟨hb, .inl rfl⟩)
    rw [exec_stop, stopTransaction_unexpected _ hb]
  | busErr status => rfl
  | frameStart => cases hi
  | compareMatch => cases hi

/-- Everything a bus event can do: start a transaction, store a byte, sort and publish, or abort. -/
theorem exec_bus_cases {i : Instr} (s : State) (hi : isBus i = true) :
    (i = .addrW ∧ exec i s = .next (startTransaction s)) ∨
    (∃ raw, ∃ h : s.idx.val < N, i = .data raw ∧ s.busState = .receiving ∧
      exec i s = .next (respond (some .ack) (storeRaw (mapDuty Config.params raw) s h))) ∨
    (i = .stop ∧ s.busState = .receiving ∧
      exec i s = .next { setBack (sortSchedule s.rawDuty s.back) s with
        updatePending := true, busState := .idle, resp := some .ack }) ∨
    (¬Accepted i s ∧ exec i s = .next (abort s)) := by
  by_cases h : Accepted i s
  · obtain rfl | ⟨hb, rfl | ⟨hlt, raw, rfl⟩⟩ := h
    · exact .inl ⟨rfl, exec_addrW s⟩
    · exact .inr (.inr (.inl ⟨rfl, hb, exec_stop_receiving hb⟩))
    · exact .inr (.inl ⟨raw, hlt, rfl, hb, exec_data_accepted raw hb hlt⟩)
  · exact .inr (.inr (.inr ⟨h, exec_bus_rejected hi h⟩))

/-- What the bus side leaves alone in the engine: all the timer side, the schedule in front, and a pending update. -/
structure EngineKept (s t : State) : Prop where
  tcnt : t.tcnt = s.tcnt
  ocr : t.ocr = s.ocr
  nextIndex : t.nextIndex = s.nextIndex
  out : t.out = s.out
  frontSel : t.frontSel = s.frontSel
  front : t.front = s.front
  tev : t.tev = s.tev
  pending : s.updatePending = true → t.updatePending = true

theorem exec_bus_engineKept {i : Instr} {s t : State} (hi : isBus i = true) (h : exec i s = .next t) : EngineKept s t := by
  obtain ⟨-, hEq⟩ | ⟨raw, hlt, -, -, hEq⟩ | ⟨-, -, hEq⟩ | ⟨-, hEq⟩ := exec_bus_cases s hi <;> cases hEq.symm.trans h
  · exact ⟨rfl, rfl, rfl, rfl, rfl, rfl, rfl, id⟩
  · exact ⟨rfl, rfl, rfl, rfl, rfl, rfl, rfl, id⟩
  · exact ⟨setBack_tcnt _ s, setBack_ocr _ s, setBack_nextIndex _ s, setBack_out _ s, setBack_frontSel _ s,
      setBack_front _ s, setBack_tev _ s, fun _ => rfl⟩
  · exact ⟨rfl, rfl, rfl, rfl, rfl, rfl, rfl, id⟩

/-! ## The timer events (43_pulse_engine.md) -/

/-- What the timer side leaves alone: the bus side, both schedule instances, a flag that is not set, and the response.
-/
structure BusSideKept (s t : State) : Prop where
  busState : t.busState = s.busState
  idx : t.idx = s.idx
  rawDuty : t.rawDuty = s.rawDuty
  sched : SameInstances s t
  resp : t.resp = s.resp
  tev : t.tev = s.tev
  pending : s.updatePending = false → t.updatePending = false

theorem BusSideKept.trans {s t u : State} (hst : BusSideKept s t) (htu : BusSideKept t u) : BusSideKept s u where
  busState := htu.busState.trans hst.busState
  idx := htu.idx.trans hst.idx
  rawDuty := htu.rawDuty.trans hst.rawDuty
  sched := hst.sched.trans htu.sched
  resp := htu.resp.trans hst.resp
  tev := htu.tev.trans hst.tev
  pending := htu.pending ∘ hst.pending

theorem setTcnt_busSideKept (c : Ticks) (s : State) : BusSideKept s (setTcnt c s) :=
  ⟨rfl, rfl, rfl, ⟨rfl, rfl⟩, rfl, rfl, id⟩

theorem frameStart_busSideKept (s : State) : BusSideKept s (frameStart s) := by
  rw [frameStart_eq]
  exact ⟨rfl, rfl, rfl, ⟨rfl, rfl⟩, rfl, rfl, fun _ => rfl⟩

theorem compareMatch_busSideKept (p : Params) (t0 : Nat) (s : State) : BusSideKept s (compareMatch p t0 s) := by
  rw [compareMatch_frame]
  exact ⟨rfl, rfl, rfl, ⟨rfl, rfl⟩, rfl, rfl, id⟩

theorem countTick_busSideKept (p : Params) (s : State) : BusSideKept s (countTick p s) := by
  have hCount := setTcnt_busSideKept (s.tcnt + 1) s
  have hFrame := (setTcnt_busSideKept 0 s).trans (frameStart_busSideKept _)
  obtain ⟨-, -, hEq⟩ | ⟨-, -, hEq⟩ | ⟨-, -, hEq⟩ | ⟨-, -, hEq⟩ := countTick_cases p s <;> rw [hEq]
  · exact hCount
  · exact hCount.trans (compareMatch_busSideKept p _ _)
  · exact hFrame
  · exact hFrame.trans (compareMatch_busSideKept p 0 _)

theorem exec_timer_busSideKept {i : Instr} {s t : State} (hi : isTimer i = true) (h : exec i s = .next t) :
    BusSideKept (respond none s) t := by
  cases i <;> cases hi <;> cases h
  case tick => exact countTick_busSideKept _ (respond none s)
  case frameStart => exact frameStart_busSideKept (respond none s)
  case compareMatch => exact compareMatch_busSideKept _ _ (respond none s)

/-- Every event is RESET, a bus event or a timer event. -/
theorem instr_cases (i : Instr) : i = .reset ∨ isBus i = true ∨ isTimer i = true := by
  cases i <;> simp [isBus, isTimer]

/-- No event but RESET writes the internal timer event vector. -/
theorem exec_tev {i : Instr} {s t : State} (hi : i ≠ .reset) (h : exec i s = .next t) : t.tev = s.tev := by
  obtain rfl | hBus | hTimer := instr_cases i
  · exact absurd rfl hi
  · exact (exec_bus_engineKept hBus h).tev
  · exact (exec_timer_busSideKept hTimer h).tev

/-! ## The response (30_encoding.md R51) -/

theorem isBus_of_accepted {i : Instr} {s : State} (h : Accepted i s) : isBus i = true := by
  obtain rfl | ⟨-, rfl | ⟨-, raw, rfl⟩⟩ := h <;> rfl

theorem exec_accepted_resp {i : Instr} {s t : State} (hAcc : Accepted i s) (h : exec i s = .next t) : t.resp = some .ack := by
  obtain ⟨-, hEq⟩ | ⟨raw, hlt, -, -, hEq⟩ | ⟨-, -, hEq⟩ | ⟨hNot, -⟩ := exec_bus_cases s (isBus_of_accepted hAcc)
  case inr.inr.inr => exact absurd hAcc hNot
  all_goals
    cases hEq.symm.trans h
    rfl

theorem exec_not_bus_resp {i : Instr} {s t : State} (hi : ¬isBus i = true) (h : exec i s = .next t) : t.resp = none := by
  obtain rfl | hBus | hTimer := instr_cases i
  · cases h
    rfl
  · exact absurd hBus hi
  · exact (exec_timer_busSideKept hTimer h).resp

/-! ## The four cases of a TICK (43_pulse_engine.md R91) -/

section
variable {p : Params} {s : State}

theorem advance_counts (h : ovfHit p s = false) : advance p s = setTcnt (s.tcnt + 1) s := by
  rw [advance, h, if_neg Bool.false_ne_true]

theorem countTick_counts (h : ovfHit p s = false) (hm : s.tcnt + 1 ≠ s.ocr) : countTick p s = setTcnt (s.tcnt + 1) s := by
  rw [countTick, advance_counts h]
  exact if_neg fun hHit => hm (of_decide_eq_true hHit)

theorem countTick_matches (h : ovfHit p s = false) (hm : s.tcnt + 1 = s.ocr) :
    countTick p s = compareMatch p (s.tcnt + 1).toNat (setTcnt (s.tcnt + 1) s) := by
  rw [countTick, advance_counts h]
  exact if_pos (decide_eq_true hm)

theorem countTick_wraps (h : ovfHit p s = true) (hm : (frameStart (setTcnt 0 s)).ocr ≠ 0) :
    countTick p s = frameStart (setTcnt 0 s) := by
  obtain ⟨h', -⟩ | ⟨h', -⟩ | ⟨-, -, hEq⟩ | ⟨-, hm', -⟩ := countTick_cases p s
  · cases h.symm.trans h'
  · cases h.symm.trans h'
  · exact hEq
  · exact absurd hm' hm

theorem countTick_wraps_and_matches (h : ovfHit p s = true) (hm : (frameStart (setTcnt 0 s)).ocr = 0) :
    countTick p s = compareMatch p 0 (frameStart (setTcnt 0 s)) := by
  obtain ⟨h', -⟩ | ⟨h', -⟩ | ⟨-, hm', -⟩ | ⟨-, -, hEq⟩ := countTick_cases p s
  · cases h.symm.trans h'
  · cases h.symm.trans h'
  · exact absurd hm hm'
  · exact hEq

end

/-! ## Between two frame starts -/

theorem exec_tick_within_frame {s t : State} (hOvf : ovfHit Config.params s = false) (h : exec .tick s = .next t) :
    t = setTcnt (s.tcnt + 1) (respond none s) ∨
    t = compareMatch Config.params (s.tcnt + 1).toNat (setTcnt (s.tcnt + 1) (respond none s)) := by
  cases h
  obtain ⟨-, -, hEq⟩ | ⟨-, -, hEq⟩ | ⟨hOvf', -⟩ | ⟨hOvf', -⟩ := countTick_cases Config.params (respond none s)
  · exact .inl hEq
  · exact .inr hEq
  · exact absurd (hOvf.symm.trans hOvf') Bool.false_ne_true
  · exact absurd (hOvf.symm.trans hOvf') Bool.false_ne_true

/-- What an event that starts no frame can do: it is a bus event, or it sets the counter, and may serve a match after
it. -/
theorem exec_within_frame {i : Instr} {s t : State} (h : exec i s = .next t) (hReset : i ≠ .reset) (hFrame : ¬StartsFrame i s) :
    isBus i = true ∨ (∃ c, t = setTcnt c (respond none s)) ∨
      ∃ t0 c, t = compareMatch Config.params t0 (setTcnt c (respond none s)) := by
  obtain ⟨hNotFrame, hNoWrap⟩ := not_or.mp hFrame
  cases i with
  | reset => exact absurd rfl hReset
  | tick =>
    have hOvf : ovfHit Config.params s = false := Bool.eq_false_iff.mpr fun hOvf => hNoWrap ⟨rfl, hOvf⟩
    obtain hEq | hEq := exec_tick_within_frame hOvf h
    · exact .inr (.inl ⟨_, hEq⟩)
    · exact .inr (.inr ⟨_, _, hEq⟩)
  | frameStart => exact absurd rfl hNotFrame
  | compareMatch =>
    cases h
    exact .inr (.inr ⟨s.tcnt.toNat, s.tcnt, rfl⟩)
  | addrW => exact .inl rfl
  | data raw => exact .inl rfl
  | stop => exact .inl rfl
  | busErr status => exact .inl rfl

/-- COMPARE_MATCH turns no output on and does not move the cursor back. -/
theorem compareMatch_only_falls (p : Params) (t0 : Nat) (s : State) :
    (∀ c : Fin N, (compareMatch p t0 s).out[c] = true → s.out[c] = true) ∧
    s.nextIndex.val ≤ (compareMatch p t0 s).nextIndex.val := by
  by_cases h : s.nextIndex.val < N
  · obtain ⟨m, hm⟩ := compareMatch_serves p t0 h
    exact ⟨fun c hc => ((hm.out c).mp hc).1, hm.cursor ▸ Nat.le_add_right _ _⟩
  · rw [compareMatch_done p t0 (by omega)]
    exact ⟨fun _ hc => hc, Nat.le_refl _⟩

/-! ## The statements -/

/-- Settles O38: in each of the four cases of a bus event. -/
theorem busSideLeavesTheTimerSide : Obligations.BusSideLeavesTheTimerSide := by
  unfold Obligations.BusSideLeavesTheTimerSide
  intro i s hi
  obtain ⟨t, h⟩ := exec_next i s
  obtain ⟨hTcnt, hOcr, hCursor, hOut, hSel, hFront, -, hPending⟩ := exec_bus_engineKept hi h
  exact ⟨t, h, hTcnt, hOcr, hCursor, hOut, hSel, hFront, hPending⟩

/-- Settles O39: operation by operation; TICK is made of the other two and the write of the counter. -/
theorem timerSideLeavesTheBusSide : Obligations.TimerSideLeavesTheBusSide := by
  unfold Obligations.TimerSideLeavesTheBusSide
  intro i s hi
  obtain ⟨t, h⟩ := exec_next i s
  obtain ⟨hBus, hIdx, hRaw, ⟨hSched0, hSched1⟩, -, -, hPending⟩ := exec_timer_busSideKept hi h
  exact ⟨t, h, hBus, hIdx, hRaw, hSched0, hSched1, hPending⟩

/-- Settles O26: a bus event keeps the front, and neither the counter nor COMPARE_MATCH touches a schedule or
`front_sel`. -/
theorem frontChangesOnlyAtAFrameStart : Obligations.FrontChangesOnlyAtAFrameStart := by
  unfold Obligations.FrontChangesOnlyAtAFrameStart
  intro i s t h hReset hFrame
  obtain hBus | ⟨c, rfl⟩ | ⟨t0, c, rfl⟩ := exec_within_frame h hReset hFrame
  · have hKept := exec_bus_engineKept hBus h
    exact ⟨hKept.frontSel, hKept.front⟩
  · exact ⟨rfl, rfl⟩
  · exact ⟨compareMatch_frontSel _ _ _, compareMatch_front _ _ _⟩

/-- Settles O32: a bus event keeps the outputs and the cursor, and COMPARE_MATCH only serves entries. -/
theorem outputsOnlyFallWithinAFrame : Obligations.OutputsOnlyFallWithinAFrame := by
  unfold Obligations.OutputsOnlyFallWithinAFrame
  intro i s t h hReset hFrame
  obtain hBus | ⟨c, rfl⟩ | ⟨t0, c, rfl⟩ := exec_within_frame h hReset hFrame
  · have hKept := exec_bus_engineKept hBus h
    exact ⟨fun c hc => hKept.out ▸ hc, hKept.nextIndex ▸ Nat.le_refl _⟩
  · exact ⟨fun _ hc => hc, Nat.le_refl _⟩
  · exact compareMatch_only_falls _ _ _

/-- Only a STOP in RECEIVING sets the flag. -/
theorem exec_sets_pending {i : Instr} {s t : State} (h : exec i s = .next t) (hs : s.updatePending = false)
    (ht : t.updatePending = true) : i = .stop ∧ s.busState = .receiving := by
  obtain rfl | hBus | hTimer := instr_cases i
  · cases h
    cases ht
  · obtain ⟨-, hEq⟩ | ⟨raw, hlt, -, -, hEq⟩ | ⟨hi, hb, -⟩ | ⟨-, hEq⟩ := exec_bus_cases s hBus
    case inr.inr.inl => exact ⟨hi, hb⟩
    all_goals
      cases hEq.symm.trans h
      exact absurd (hs.symm.trans ht) Bool.false_ne_true
  · exact absurd (((exec_timer_busSideKept hTimer h).pending hs).symm.trans ht) Bool.false_ne_true

/-- Settles O25: a bus event keeps a set flag, a timer event a cleared one, and SWAP is performed at frame starts
only. -/
theorem onlyStopSetsAndOnlyAFrameStartClearsPending : Obligations.OnlyStopSetsAndOnlyAFrameStartClearsPending := by
  unfold Obligations.OnlyStopSetsAndOnlyAFrameStartClearsPending
  intro i s t h
  refine ⟨exec_sets_pending h, fun hs ht => ?_⟩
  by_contra hNeither
  obtain ⟨hReset, hFrame⟩ := not_or.mp hNeither
  have hKept : t.updatePending = true := by
    obtain hBus | ⟨c, rfl⟩ | ⟨t0, c, rfl⟩ := exec_within_frame h hReset hFrame
    · exact (exec_bus_engineKept hBus h).pending hs
    · exact hs
    · exact (compareMatch_updatePending _ _ _).trans hs
  exact Bool.false_ne_true (ht.symm.trans hKept)

/-- Settles O27: the two tests of TICK, the wrap and the compare after the advance, one case for each of their
outcomes. -/
theorem tickCountsAndServesItsEvents : Obligations.TickCountsAndServesItsEvents := by
  unfold Obligations.TickCountsAndServesItsEvents
  intro s
  have hNoWrap : s.tcnt.toNat ≠ 19999 → ovfHit Config.params (respond none s) = false := decide_eq_false
  have hWrap : s.tcnt.toNat = 19999 → ovfHit Config.params (respond none s) = true := decide_eq_true
  have hOcr : (frameStart (setTcnt 0 (respond none s))).ocr = (if s.updatePending then s.back else s.front)[0].duty := by
    rw [frameStart_eq]
    rfl
  refine ⟨fun hCount hMatch => ?_, fun hCount hMatch => ?_, fun hLast hFirst => ?_, fun hLast hFirst => ?_⟩
  · rw [exec_tick, countTick_counts (hNoWrap hCount) hMatch]
    rfl
  · rw [exec_tick, countTick_matches (hNoWrap hCount) hMatch]
    rfl
  · rw [exec_tick, countTick_wraps (hWrap hLast) (hOcr ▸ hFirst)]
    rfl
  · refine ⟨_, exec_frameStart _, ?_⟩
    rw [exec_tick, countTick_wraps_and_matches (hWrap hLast) (hOcr.trans hFirst), exec_compareMatch,
      frameStart_eq, frameStart_eq]
    rfl

/-- Settles O11: only an accepted bus event answers ACK, every other bus event aborts, and no other event answers. -/
theorem everyBusEventAnswersExactlyOnce : Obligations.EveryBusEventAnswersExactlyOnce := by
  unfold Obligations.EveryBusEventAnswersExactlyOnce
  intro i s t h
  show (t.busAck = true ↔ Accepted i s) ∧ _
  by_cases hBus : isBus i = true
  · by_cases hAcc : Accepted i s
    · have hResp : t.resp = some .ack := exec_accepted_resp hAcc h
      simp [State.busAck, State.busReset, hResp, hAcc]
    · have hResp : t.resp = some .busReset := by
        cases (exec_bus_rejected hBus hAcc).symm.trans h
        rfl
      simp [State.busAck, State.busReset, hResp, hAcc, hBus]
  · have hAcc : ¬Accepted i s := fun hAcc => hBus (isBus_of_accepted hAcc)
    have hResp : t.resp = none := exec_not_bus_resp hBus h
    simp [State.busAck, State.busReset, hResp, hAcc, hBus]

/-- Settles O5: the status code of DATA, and the accepting case of the operation at DUTY_MIN = 1000 and a span of
1000. -/
theorem acceptedByteIsMappedAndStored : Obligations.AcceptedByteIsMappedAndStored := by
  unfold Obligations.AcceptedByteIsMappedAndStored
  refine ⟨fun raw => ?_, fun s raw h hb => ?_⟩
  · rw [decode, decodeWith_bus]
    exact congrArg _ (decodeBus_data params_legal raw)
  · rw [exec_data_accepted raw hb h]
    rfl

/-- Settles O6: with the buffer full a DATA is not accepted. -/
theorem overflowingByteAborts : Obligations.OverflowingByteAborts := by
  unfold Obligations.OverflowingByteAborts
  intro s raw hb hi
  rw [exec_data, dataByte_full _ raw hb (by omega), abort_eq]

/-- Settles O9: in IDLE neither is accepted, and ABORT's IDLE is the state already. -/
theorem dataAndStopOutsideATransactionDoNothing : Obligations.DataAndStopOutsideATransactionDoNothing := by
  unfold Obligations.DataAndStopOutsideATransactionDoNothing
  intro s raw hb
  have hNot : s.busState ≠ .receiving := by
    rw [hb]
    decide
  have hAbort : abort s = { s with resp := some .busReset } := by
    rw [abort_eq, ← hb]
  rw [exec_data, exec_stop, dataByte_unexpected _ raw hNot, stopTransaction_unexpected _ hNot, hAbort]
  exact ⟨rfl, rfl⟩

end Sys2Proof.Machine
end

section
/-! The step (00_scope.md R8): which event a step services, that every event in every state answers, and that no event
reads the deliveries still to come. The statements settled here: O45, O46, O47, O48. -/

namespace Sys2Proof.Machine

/-! ## What a step services -/

/-- Settles O45: the two tests of the step. -/
theorem stepRunsTheDecodedEvent : Obligations.StepRunsTheDecodedEvent := by
  unfold Obligations.StepRunsTheDecodedEvent
  intro s s1 word i hFetch hDecode
  simp only [step, hFetch, hDecode]

theorem step_idle {s s1 : State} (h : fetch s = (none, s1)) : step s = .next (respond none s1) := by
  simp only [step, h]

/-- The internal timer event vector comes before every port sample. -/
theorem step_tmr {s : State} {i : Instr} (ht : s.tev ≠ 0) (hi : decode (.tmr s.tev) = .ok i) :
    step s = exec i { s with tev := if s.tev.getLsbD 0 then s.tev &&& 0b10 else 0 } :=
  stepRunsTheDecodedEvent s _ _ i (if_neg ht) hi

section
variable {s : State} {x : PortSample} {rest : List PortSample}

/-- With no internal timer event, a step services the word that the oldest sample gives first. -/
theorem step_sample {word : PortWord} {left : Option PortSample} {i : Instr} (ht : s.tev = 0) (hs : s.inputs = x :: rest)
    (hx : x.take = (some word, left)) (hi : decode word = .ok i) :
    step s = exec i { s with inputs := left.toList ++ rest } :=
  stepRunsTheDecodedEvent s _ word i (by rw [fetch_sample ht hs, hx]) hi

theorem step_rst (ht : s.tev = 0) (hs : s.inputs = x :: rest) (hr : x.rst = true) :
    step s = exec .reset { s with inputs := rest } :=
  step_sample ht hs (if_pos hr) rfl

theorem step_tick (ht : s.tev = 0) (hs : s.inputs = x :: rest) (hr : x.rst = false) (hk : x.tick = true)
    (hb : x.busEvValid = false) : step s = exec .tick { s with inputs := rest } :=
  step_sample ht hs (by rw [PortSample.take, hr, hk, hb]; rfl) rfl

theorem step_bus (ht : s.tev = 0) (hs : s.inputs = x :: rest) (hr : x.rst = false) (hk : x.tick = false)
    (hb : x.busEvValid = true) :
    step s = exec (decodeBus Config.params (busWord x.busStatus x.busData)) { s with inputs := rest } :=
  step_sample ht hs (by rw [PortSample.take, hr, hk, hb]; rfl) rfl

theorem step_bus_then_tick (ht : s.tev = 0) (hs : s.inputs = x :: rest) (hr : x.rst = false) (hk : x.tick = true)
    (hb : x.busEvValid = true) (hf : x.busFirst = true) :
    step s = exec (decodeBus Config.params (busWord x.busStatus x.busData))
      { s with inputs := { x with busEvValid := false } :: rest } :=
  step_sample (left := some _) ht hs (by simp [PortSample.take, hr, hk, hb, hf]; rfl) rfl

theorem step_tick_then_bus (ht : s.tev = 0) (hs : s.inputs = x :: rest) (hr : x.rst = false) (hk : x.tick = true)
    (hb : x.busEvValid = true) (hf : x.busFirst = false) :
    step s = exec .tick { s with inputs := { x with tick := false } :: rest } :=
  step_sample (left := some _) ht hs (by simp [PortSample.take, hr, hk, hb, hf]; rfl) rfl

theorem step_quiet (ht : s.tev = 0) (hs : s.inputs = x :: rest) (hr : x.rst = false) (hk : x.tick = false)
    (hb : x.busEvValid = false) : step s = .next { s with inputs := rest, resp := none } := by
  have hx : x.take = (none, none) := by rw [PortSample.take, hr, hk, hb]; rfl
  rw [step_idle (fetch_sample ht hs |>.trans (by rw [hx]))]
  rfl

end

/-- Settles O46: one lemma for each value of the vector and each kind of sample. -/
theorem stepServicesOneDelivery : Obligations.StepServicesOneDelivery := by
  unfold Obligations.StepServicesOneDelivery
  intro s
  refine ⟨fun h => ?_, fun h => ?_, fun h => ?_, fun h hs => step_idle (fetch_quiet h hs), fun x rest h hs =>
    ⟨step_rst h hs, step_tick h hs, step_bus h hs, step_bus_then_tick h hs, step_tick_then_bus h hs, step_quiet h hs⟩⟩
  all_goals
    rw [step_tmr (by rw [h]; decide) (by rw [h]; rfl), h]
    rfl

/-! ## Every event answers (60_exceptions.md R114) -/

/-- With no internal timer event pending, a step services an event delivered at the ports, or only drives the response
to none; it services a RESET only when the oldest sample asserts `rst`. -/
theorem step_cases {s : State} (ht : s.tev = 0) :
    ∃ l, step s = .next { s with inputs := l, resp := none } ∨
      ∃ i, step s = exec i { s with inputs := l } ∧
        ((i = .reset ∧ ∃ x ∈ s.inputs.head?, x.rst = true) ∨ i = .tick ∨ isBus i = true) := by
  cases hs : s.inputs with
  | nil => exact ⟨s.inputs, .inl (step_idle (fetch_quiet ht hs))⟩
  | cons x rest =>
    cases hr : x.rst with
    | true => exact ⟨_, .inr ⟨_, step_rst ht hs hr, .inl ⟨rfl, x, rfl, hr⟩⟩⟩
    | false =>
      have hBus := isBus_decodeBus Config.params (busWord x.busStatus x.busData)
      cases hk : x.tick <;> cases hb : x.busEvValid
      · exact ⟨_, .inl (step_quiet ht hs hr hk hb)⟩
      · exact ⟨_, .inr ⟨_, step_bus ht hs hr hk hb, .inr (.inr hBus)⟩⟩
      · exact ⟨_, .inr ⟨_, step_tick ht hs hr hk hb, .inr (.inl rfl)⟩⟩
      · cases hf : x.busFirst
        · exact ⟨_, .inr ⟨_, step_tick_then_bus ht hs hr hk hb hf, .inr (.inl rfl)⟩⟩
        · exact ⟨_, .inr ⟨_, step_bus_then_tick ht hs hr hk hb hf, .inr (.inr hBus)⟩⟩

theorem decode_tmr_ok {tev : BitVec 2} (h : tev ≠ 0) : ∃ i, decode (.tmr tev) = .ok i := by
  have hBits : tev.getLsbD 0 = true ∨ tev.getLsbD 1 = true := by
    revert tev
    decide
  by_cases h0 : tev.getLsbD 0 = true
  · exact ⟨_, decode_tmr_bit0 h0⟩
  · exact ⟨.compareMatch, by rw [decode, decodeWith, decodeTmr, if_neg h0, if_pos (hBits.resolve_left h0)]⟩

theorem step_next (s : State) : ∃ t, step s = .next t := by
  by_cases ht : s.tev = 0
  · obtain ⟨l, h | ⟨i, h, -⟩⟩ := step_cases ht
    · exact ⟨_, h⟩
    · rw [h]
      exact exec_next i _
  · obtain ⟨i, hi⟩ := decode_tmr_ok ht
    rw [step_tmr ht hi]
    exact exec_next i _

/-- Settles O48: no arm of the dispatch faults or refuses, and a fetched word always decodes. -/
theorem everyStepHasASuccessor : Obligations.EveryStepHasASuccessor :=
  ⟨exec_next, step_next⟩

/-! ## No event reads or writes the deliveries still to come (60_exceptions.md R110) -/

/-- `s` with other deliveries still to come. -/
def withInputs (l : List PortSample) (s : State) : State := { s with inputs := l }

@[simp] theorem withInputs_rawDuty (l : List PortSample) (s : State) : (withInputs l s).rawDuty = s.rawDuty := rfl
@[simp] theorem withInputs_back (l : List PortSample) (s : State) : (withInputs l s).back = s.back := rfl
@[simp] theorem withInputs_tcnt (l : List PortSample) (s : State) : (withInputs l s).tcnt = s.tcnt := rfl
@[simp] theorem cmpHit_withInputs (l : List PortSample) (s : State) : cmpHit (withInputs l s) = cmpHit s := rfl

theorem setBack_withInputs (sch : Schedule) (l : List PortSample) (s : State) :
    setBack sch (withInputs l s) = withInputs l (setBack sch s) := by
  obtain ⟨b, i, r, s0, s1, fs, up, ni, tc, oc, o, re, te, inp⟩ := s
  cases fs <;> rfl

theorem dataByte_withInputs (p : Params) (raw : Byte) (l : List PortSample) (s : State) :
    dataByte p raw (withInputs l s) = withInputs l (dataByte p raw s) := by
  by_cases hb : s.busState = .receiving
  · by_cases hi : s.idx.val < N
    · rw [dataByte_accepted p raw hb hi, dataByte_accepted p raw (s := withInputs l s) hb hi]
      rfl
    · rw [dataByte_full p raw hb hi, dataByte_full p raw (s := withInputs l s) hb hi]
      rfl
  · rw [dataByte_unexpected p raw hb, dataByte_unexpected p raw (s := withInputs l s) hb]
    rfl

theorem stopTransaction_withInputs (p : Params) (l : List PortSample) (s : State) :
    stopTransaction p (withInputs l s) = withInputs l (stopTransaction p s) := by
  by_cases hb : s.busState = .receiving
  · rw [stopTransaction_receiving p hb, stopTransaction_receiving p (s := withInputs l s) hb, withInputs_rawDuty,
      withInputs_back, setBack_withInputs]
    rfl
  · rw [stopTransaction_unexpected p hb, stopTransaction_unexpected p (s := withInputs l s) hb]
    rfl

theorem frameStart_withInputs (l : List PortSample) (s : State) :
    frameStart (withInputs l s) = withInputs l (frameStart s) := by
  rw [frameStart_eq, frameStart_eq]
  rfl

theorem walk_withInputs (p : Params) (l : List PortSample) (fuel t : Nat) (s : State) :
    walk p fuel t (withInputs l s) = withInputs l (walk p fuel t s) := by
  induction fuel generalizing t s with
  | zero => rfl
  | succ fuel ih =>
    by_cases h : s.nextIndex.val < N
    · by_cases h1 : (serveNext s h).nextIndex.val < N
      · by_cases hd : s.front[(serveNext s h).nextIndex.val].duty.toNat ≤ t + p.margin
        · rw [walk_goes_on p fuel t h h1 hd, walk_goes_on p fuel t (s := withInputs l s) h h1 hd]
          exact ih _ (serveNext s h)
        · rw [walk_arms p fuel t h h1 hd, walk_arms p fuel t (s := withInputs l s) h h1 hd]
          rfl
      · rw [walk_last p fuel t h h1, walk_last p fuel t (s := withInputs l s) h h1]
        rfl
    · rw [walk_done p _ t h, walk_done p _ t (s := withInputs l s) h]

theorem compareMatch_withInputs (p : Params) (t0 : Nat) (l : List PortSample) (s : State) :
    compareMatch p t0 (withInputs l s) = withInputs l (compareMatch p t0 s) :=
  walk_withInputs p l N t0 s

theorem advance_withInputs (p : Params) (l : List PortSample) (s : State) :
    advance p (withInputs l s) = withInputs l (advance p s) := by
  cases h : ovfHit p s
  · rw [advance_counts h, advance_counts (s := withInputs l s) h]
    rfl
  · rw [advance_wrap h, advance_wrap (s := withInputs l s) h]
    exact frameStart_withInputs l (setTcnt 0 s)

theorem countTick_withInputs (p : Params) (l : List PortSample) (s : State) :
    countTick p (withInputs l s) = withInputs l (countTick p s) := by
  simp only [countTick, advance_withInputs, cmpHit_withInputs, withInputs_tcnt, compareMatch_withInputs]
  exact (apply_ite (withInputs l) _ _ _).symm

theorem exec_withInputs {i : Instr} {s t : State} (l : List PortSample) (h : exec i s = .next t) :
    exec i (withInputs l s) = .next (withInputs l t) := by
  cases i <;> cases h
  case reset => rfl
  case tick => exact congrArg _ (countTick_withInputs _ l (respond none s))
  case addrW => rfl
  case data raw => exact congrArg _ (dataByte_withInputs _ raw l s)
  case stop => exact congrArg _ (stopTransaction_withInputs _ l s)
  case busErr => rfl
  case frameStart => exact congrArg _ (frameStart_withInputs l (respond none s))
  case compareMatch => exact congrArg _ (compareMatch_withInputs _ _ l (respond none s))

theorem exec_inputs {i : Instr} {s t : State} (h : exec i s = .next t) : t.inputs = s.inputs := by
  have hSame : t = withInputs s.inputs t := Host.Outcome.next.inj (h.symm.trans (exec_withInputs s.inputs h))
  rw [hSame]
  rfl

/-! ## Coinciding events (20_memory.md R44) -/

/-- When the first of two steps runs `i` and leaves the rest of its sample, and the second runs `j`, the two are the
events serviced one after the other, on the state with the sample consumed. -/
theorem run_two_steps {s : State} {i j : Instr} {x : PortSample} {rest : List PortSample} (ht : s.tev = 0) (hi : i ≠ .reset)
    (hFirst : step s = exec i (withInputs (x :: rest) s))
    (hSecond : ∀ t : State, t.tev = 0 → t.inputs = x :: rest → step t = exec j (withInputs rest t)) :
    Sys2Proof.core.run 2 s = service [i, j] (withInputs rest s) := by
  obtain ⟨t, hExec⟩ := exec_next i (withInputs (x :: rest) s)
  have hTev : t.tev = 0 := (exec_tev hi hExec).trans ht
  have hStep := hSecond t hTev (exec_inputs hExec)
  have hRest : exec i (withInputs rest s) = .next (withInputs rest t) :=
    exec_withInputs (s := withInputs (x :: rest) s) rest hExec
  obtain ⟨u, hu⟩ := exec_next j (withInputs rest t)
  simp only [Host.Core.run, Sys2Proof.core, service, hFirst, hExec, hStep, hRest, hu]

/-- Settles O47: the first step leaves the other event in the sample, and no event reads or writes what is still to
come. -/
theorem coincidingEventsAreServicedInEitherOrder : Obligations.CoincidingEventsAreServicedInEitherOrder := by
  unfold Obligations.CoincidingEventsAreServicedInEitherOrder
  intro s x rest ht hs hr hk hb
  cases hf : x.busFirst with
  | true =>
    refine run_two_steps ht (fun h => ?_) (step_bus_then_tick ht hs hr hk hb hf) fun t ht' hs' => step_tick ht' hs' hr hk rfl
    cases h ▸ isBus_decodeBus Config.params (busWord x.busStatus x.busData)
  | false =>
    exact run_two_steps ht (by decide) (step_tick_then_bus ht hs hr hk hb hf) fun t ht' hs' =>
      step_bus (x := { x with tick := false }) ht' hs' hr rfl hb

end Sys2Proof.Machine
end

section
/-! Building a schedule (41_schedule_build.md): MAP rounds a full product down, and the stable arrangement of the raw
duties is unique, complete and sorted. The statements settled here: O12, O13, O14, O15, O16. -/

namespace Sys2Proof.Machine

/-! ## MAP (R76 to R78) -/

theorem mapByte_mono (p : Params) {a b : Byte} (h : a.toNat ≤ b.toNat) : mapByte p a ≤ mapByte p b :=
  Nat.add_le_add_right (Nat.div_le_div_right (Nat.mul_le_mul_right _ h)) _

/-- With a span of at least 255 a step of the byte adds at least 255 to the product. -/
theorem mapByte_strictMono {p : Params} (hSpan : 255 ≤ p.dutyMax - p.dutyMin) {a b : Byte} (h : a.toNat < b.toNat) :
    mapByte p a < mapByte p b := by
  have hProduct : a.toNat * (p.dutyMax - p.dutyMin) + 255 ≤ b.toNat * (p.dutyMax - p.dutyMin) :=
    calc a.toNat * (p.dutyMax - p.dutyMin) + 255 ≤ (a.toNat + 1) * (p.dutyMax - p.dutyMin) := by
          rw [Nat.succ_mul]
          exact Nat.add_le_add_left hSpan _
      _ ≤ b.toNat * (p.dutyMax - p.dutyMin) := Nat.mul_le_mul_right _ h
  unfold mapByte
  omega

theorem mapByte_zero (p : Params) : mapByte p 0 = p.dutyMin := by
  simp [mapByte]

theorem mapByte_255 {p : Params} (hp : p.Legal) : mapByte p 255 = p.dutyMax := by
  obtain ⟨-, ⟨-, hMinMax, -⟩, -⟩ := hp
  show 255 * (p.dutyMax - p.dutyMin) / 255 + p.dutyMin = p.dutyMax
  rw [Nat.mul_div_cancel_left _ (by decide), Nat.sub_add_cancel hMinMax]

theorem mapByte_mem_range {p : Params} (hp : p.Legal) (raw : Byte) :
    p.dutyMin ≤ mapByte p raw ∧ mapByte p raw ≤ p.dutyMax := by
  have hLast : raw.toNat ≤ (255 : Byte).toNat := Nat.le_of_lt_succ raw.isLt
  exact ⟨Nat.le_add_left _ _, (mapByte_mono p hLast).trans_eq (mapByte_255 hp)⟩

/-- The DW = 16 bits hold every result of MAP. -/
theorem toNat_mapDuty {p : Params} (hp : p.Legal) (raw : Byte) : (mapDuty p raw).toNat = mapByte p raw := by
  have hRange := (mapByte_mem_range hp raw).2
  obtain ⟨-, ⟨-, -, hMax⟩, hFrame, -⟩ := hp
  exact BitVec.toNat_ofNat _ _ |>.trans (Nat.mod_eq_of_lt (by omega))

theorem mapDuty_inRange {p : Params} (hp : p.Legal) (raw : Byte) : DutyInRange p (mapDuty p raw) := by
  rw [DutyInRange, toNat_mapDuty hp]
  exact mapByte_mem_range hp raw

/-- Settles O12: multiplying by the span, dividing by 255 and adding DUTY_MIN are monotone, and 255 maps to the whole
span. -/
theorem mapIsMonotoneOntoTheDutyRange : Obligations.MapIsMonotoneOntoTheDutyRange := by
  unfold Obligations.MapIsMonotoneOntoTheDutyRange
  intro p hp
  exact ⟨mapByte_zero p, mapByte_255 hp, fun a b => mapByte_mono p, fun a => ⟨mapDuty_inRange hp a, toNat_mapDuty hp a⟩,
    fun hSpan a b => mapByte_strictMono hSpan⟩

/-- Settles O13: the two inequalities that define the quotient by 255. -/
theorem mapRoundsTheFullProductDown : Obligations.MapRoundsTheFullProductDown := by
  unfold Obligations.MapRoundsTheFullProductDown
  intro p _ raw
  have hQuotient : mapByte p raw - p.dutyMin = raw.toNat * (p.dutyMax - p.dutyMin) / 255 := Nat.add_sub_cancel _ _
  rw [hQuotient]
  exact ⟨Nat.le_add_left _ _, Nat.div_mul_le_self _ _, Nat.lt_mul_of_div_lt (Nat.lt_succ_self _) (by decide)⟩

/-! ## Schedules with every channel (10_state.md R23) -/

/-- In a schedule that holds every channel, no channel is in two entries. -/
theorem channel_injective {sch : Schedule} (h : ∀ c : Fin N, ∃ k : Fin N, sch[k].channel = c) :
    Function.Injective fun k : Fin N => sch[k].channel :=
  Finite.injective_iff_surjective.mpr h

theorem Complete.channel_injective {sch : Schedule} (h : Complete sch) :
    Function.Injective fun k : Fin N => sch[k].channel :=
  Machine.channel_injective fun c => (h c).imp fun _ hk => hk.1

/-! ## The stable arrangement (R80) -/

section
variable {raw : Vector Ticks N} {x : Schedule} (h : IsStableSort raw x)
include h

theorem IsStableSort.injective : Function.Injective fun k : Fin N => x[k].channel :=
  channel_injective fun c => (h.1 c).imp fun _ hk => congrArg Entry.channel hk

theorem IsStableSort.duty (k : Fin N) : x[k].duty = raw[x[k].channel] := by
  obtain ⟨j, hj⟩ := h.1 x[k].channel
  have hChannel : x[j].channel = x[k].channel := by rw [hj]
  calc x[k].duty = x[j].duty := by rw [h.injective hChannel]
    _ = raw[x[k].channel] := by rw [hj]

theorem IsStableSort.complete : Complete x := fun c => by
  obtain ⟨k, hk⟩ := h.1 c
  have hChannel : x[k].channel = c := congrArg Entry.channel hk
  exact ⟨k, hChannel, fun j hj => h.injective (hj.trans hChannel.symm)⟩

theorem IsStableSort.sortedByDuty : SortedByDuty x := fun j k hjk => by
  obtain hlt | rfl := Fin.lt_or_eq_of_le hjk
  · exact (h.2 j k hlt).duty_le
  · exact Nat.le_refl _

end

/-- Settles O16: N entries that hold all N channels hold each once. -/
theorem stableArrangementIsCompleteAndSorted : Obligations.StableArrangementIsCompleteAndSorted := by
  unfold Obligations.StableArrangementIsCompleteAndSorted
  exact fun raw x h => ⟨h.complete, h.sortedByDuty, h.duty⟩

/-- The sort key of an entry: entries are ordered by duty, then channel. -/
def Entry.key (e : Entry) : Nat ×ₗ Fin N := toLex (e.duty.toNat, e.channel)

theorem Entry.key_injective : Function.Injective Entry.key := fun e f h => by
  obtain ⟨ce, de⟩ := e
  obtain ⟨cf, df⟩ := f
  obtain ⟨hDuty, hChannel⟩ := Prod.mk.inj (toLex.injective h)
  exact congrArg₂ Entry.mk hChannel (BitVec.eq_of_toNat_eq hDuty)

theorem Entry.Before.key_lt {e f : Entry} (h : e.Before f) : e.key < f.key :=
  Prod.Lex.toLex_lt_toLex.mpr (h.imp_right fun ⟨hDuty, hChannel⟩ => ⟨congrArg BitVec.toNat hDuty, hChannel⟩)

theorem IsStableSort.range_key {raw : Vector Ticks N} {x : Schedule} (h : IsStableSort raw x) :
    (Set.range fun k : Fin N => x[k].key) = Set.range fun c : Fin N => (⟨c, raw[c]⟩ : Entry).key := by
  refine Set.Subset.antisymm ?_ ?_
  · rintro _ ⟨k, rfl⟩
    refine ⟨x[k].channel, ?_⟩
    show (⟨x[k].channel, raw[x[k].channel]⟩ : Entry).key = x[k].key
    rw [← h.duty k]
  · rintro _ ⟨c, rfl⟩
    exact (h.1 c).imp fun k hk => congrArg Entry.key hk

/-- Settles O15: the keys of an arrangement increase strictly, and strictly increasing sequences with the same values
are equal. -/
theorem stableArrangementIsUnique : Obligations.StableArrangementIsUnique := by
  unfold Obligations.StableArrangementIsUnique
  intro raw x y hx hy
  have hxMono : StrictMono fun k : Fin N => x[k].key := fun j k hjk => (hx.2 j k hjk).key_lt
  have hyMono : StrictMono fun k : Fin N => y[k].key := fun j k hjk => (hy.2 j k hjk).key_lt
  have hKeys := (hxMono.range_inj hyMono).mp (hx.range_key.trans hy.range_key.symm)
  exact Vector.ext fun k hk => Entry.key_injective (congrFun hKeys ⟨k, hk⟩)

/-- What the buffer held before does not matter to SORT. -/
theorem sortSchedule_eq_of_raw (raw : Vector Ticks N) (b b' : Schedule) : sortSchedule raw b = sortSchedule raw b' :=
  stableArrangementIsUnique raw _ _ (sortSchedule_isStableSort raw b) (sortSchedule_isStableSort raw b')

theorem sortBack_eq (s : State) : sortBack s = setBack (sortSchedule s.rawDuty s.back) s := rfl

/-- Settles O14: SORT's schedule is stable by the induction over the channels inserted, and it is written to the back
whole. -/
theorem sortMakesTheStableArrangement : Obligations.SortMakesTheStableArrangement := by
  unfold Obligations.SortMakesTheStableArrangement
  refine ⟨sortSchedule_isStableSort, fun s => ⟨_, sortSchedule_isStableSort _ s.back, sortBack_eq s, ?_, ?_⟩⟩
  · rw [sortBack_eq, setBack_back]
  · rw [sortBack_eq, setBack_front]

/-- With every raw duty in range, the arrangement is a legal schedule. -/
theorem IsStableSort.scheduleOk {p : Params} {raw : Vector Ticks N} {x : Schedule} (h : IsStableSort raw x)
    (hRaw : ∀ c : Fin N, DutyInRange p raw[c]) : ScheduleOk p x := by
  refine ⟨h.complete, h.sortedByDuty, fun k => ?_⟩
  rw [h.duty k]
  exact hRaw _

end Sys2Proof.Machine
end

section
/-! Transactions (40_bus_transaction.md R72, R73, 41_schedule_build.md R83, R84): what a transaction of any length
leaves. The statements settled here: O17, O18, O19, O20, O21, O22. -/

namespace Sys2Proof.Machine

/-! ## Events one after the other -/

theorem service_cons {i : Instr} {s t : State} (h : exec i s = .next t) (rest : List Instr) :
    service (i :: rest) s = service rest t := by
  rw [service, h]

theorem service_append {events : List Instr} {s t : State} (h : service events s = .next t) (rest : List Instr) :
    service (events ++ rest) s = service rest t := by
  induction events generalizing s with
  | nil =>
    cases h
    rfl
  | cons i events ih =>
    obtain ⟨u, hu⟩ := exec_next i s
    rw [service_cons hu] at h
    rw [List.cons_append, service_cons hu]
    exact ih h

/-! ## The bytes of a transaction received (R65, R66) -/

/-- `raw_duty` after the bytes of a transaction: the mapped bytes, and where there is none what it held. -/
def fillRaw (raw : Vector Ticks N) (bytes : List Byte) : Vector Ticks N :=
  Vector.ofFn fun i => ((bytes[i.val]?).map (mapDuty Config.params)).getD raw[i]

theorem fillRaw_getElem (raw : Vector Ticks N) (bytes : List Byte) (i : Fin N) :
    (fillRaw raw bytes)[i] = ((bytes[i.val]?).map (mapDuty Config.params)).getD raw[i] :=
  Vector.getElem_ofFn i.isLt

theorem fillRaw_nil (raw : Vector Ticks N) : fillRaw raw [] = raw :=
  Vector.ext fun i hi => fillRaw_getElem raw [] ⟨i, hi⟩

/-- One byte more is stored behind the others. -/
theorem fillRaw_concat (raw : Vector Ticks N) {bytes : List Byte} (b : Byte) (h : bytes.length < N) :
    fillRaw raw (bytes ++ [b]) = (fillRaw raw bytes).set bytes.length (mapDuty Config.params b) := by
  refine Vector.ext fun i hi => ?_
  have hOld := fillRaw_getElem raw bytes ⟨i, hi⟩
  have hNew := fillRaw_getElem raw (bytes ++ [b]) ⟨i, hi⟩
  simp only [Fin.getElem_fin] at hOld hNew
  rw [hNew, Vector.getElem_set]
  split_ifs with heq
  · subst heq
    simp
  · rw [hOld]
    obtain hlt | hgt := Nat.lt_or_gt_of_ne heq
    · rw [List.getElem?_eq_none (by simp; omega), List.getElem?_eq_none (by omega)]
    · rw [List.getElem?_append_left hgt]

/-- With a byte for every channel, nothing of what `raw_duty` held is left. -/
theorem fillRaw_full (raw : Vector Ticks N) (bytes : Vector Byte N) (i : Fin N) :
    (fillRaw raw bytes.toList)[i] = mapDuty Config.params bytes[i] := by
  rw [fillRaw_getElem, List.getElem?_eq_getElem (by simp)]
  simp

theorem fillRaw_eq_of_full (raw raw' : Vector Ticks N) {bytes : List Byte} (h : bytes.length = N) :
    fillRaw raw bytes = fillRaw raw' bytes := by
  obtain ⟨v, rfl⟩ : ∃ v : Vector Byte N, v.toList = bytes := ⟨⟨bytes.toArray, h⟩, rfl⟩
  refine Vector.ext fun i hi => ?_
  exact (fillRaw_full raw v ⟨i, hi⟩).trans (fillRaw_full raw' v ⟨i, hi⟩).symm

/-- The state after ADDR_W and at most N bytes. -/
def received (bytes : List Byte) (h : bytes.length ≤ N) (s : State) : State :=
  { s with
    busState := .receiving, idx := ⟨bytes.length, Nat.lt_succ_of_le h⟩, rawDuty := fillRaw s.rawDuty bytes, resp := some .ack }

/-- Each of the first N bytes is accepted, by induction on the bytes from the last to the first. -/
theorem service_received {bytes : List Byte} (h : bytes.length ≤ N) (s : State) :
    service (.addrW :: bytes.map .data) s = .next (received bytes h s) := by
  induction bytes using List.reverseRecOn with
  | nil =>
    rw [received, fillRaw_nil]
    exact service_cons (exec_addrW s) []
  | append_singleton bytes b ih =>
    have hlt : bytes.length < N := by simpa using h
    rw [List.map_append, ← List.cons_append, service_append (ih hlt.le)]
    refine (service_cons (exec_data_accepted b rfl hlt) []).trans ?_
    simp [service, received, respond, storeRaw, fillRaw_concat _ _ hlt]

/-! ## A transaction of at most N bytes (R68, R73) -/

/-- The state after a transaction of at most N bytes. -/
def published (bytes : List Byte) (h : bytes.length ≤ N) (s : State) : State :=
  { setBack (sortSchedule (fillRaw s.rawDuty bytes) s.back) s with
    busState := .idle, idx := ⟨bytes.length, Nat.lt_succ_of_le h⟩, rawDuty := fillRaw s.rawDuty bytes
    updatePending := true, resp := some .ack }

theorem service_published {bytes : List Byte} (h : bytes.length ≤ N) (s : State) :
    service (transaction bytes) s = .next (published bytes h s) := by
  rw [transaction, ← List.cons_append, service_append (service_received h s), service_cons (exec_stop_receiving rfl), service,
    published]
  show Host.Outcome.next { setBack (sortSchedule (fillRaw s.rawDuty bytes) s.back) (received bytes h s) with
    updatePending := true, busState := .idle, resp := some .ack } = _
  generalize sortSchedule (fillRaw s.rawDuty bytes) s.back = sch
  obtain ⟨b, i, r, s0, s1, fs, up, ni, tc, oc, o, re, te, inp⟩ := s
  cases fs <;> rfl

section
variable {bytes : List Byte} (h : bytes.length ≤ N) (s : State)

theorem published_back : (published bytes h s).back = sortSchedule (fillRaw s.rawDuty bytes) s.back :=
  setBack_back _ s

theorem published_isStableSort : IsStableSort (fillRaw s.rawDuty bytes) (published bytes h s).back := by
  rw [published_back]
  exact sortSchedule_isStableSort _ _

/-- A transaction publishes without a trace of the one before it, when it has a byte for every channel. -/
theorem published_published {first : List Byte} (h' : first.length ≤ N) (hFull : bytes.length = N) :
    published bytes h (published first h' s) = published bytes h s := by
  have hRaw : fillRaw (published first h' s).rawDuty bytes = fillRaw s.rawDuty bytes := fillRaw_eq_of_full _ _ hFull
  have hSort := sortSchedule_eq_of_raw (fillRaw s.rawDuty bytes) (published first h' s).back s.back
  rw [published, hRaw, hSort, published]
  unfold published
  generalize sortSchedule (fillRaw s.rawDuty bytes) s.back = sch
  generalize sortSchedule (fillRaw s.rawDuty first) s.back = sch'
  obtain ⟨b, i, r, s0, s1, fs, up, ni, tc, oc, o, re, te, inp⟩ := s
  cases fs <;> rfl

end

/-! ## The order of the bytes published (R84) -/

/-- Channel `c` comes before channel `d` or is it: by its byte, and by its number among equal bytes. -/
abbrev ByteBefore (bytes : Vector Byte N) (c d : Fin N) : Prop :=
  bytes[c].toNat < bytes[d].toNat ∨ (bytes[c] = bytes[d] ∧ c ≤ d)

/-- MAP keeps the order of bytes and tells different bytes apart: the machine's span is above 255. -/
theorem mapDuty_strictMono {a b : Byte} (h : a.toNat < b.toNat) :
    (mapDuty Config.params a).toNat < (mapDuty Config.params b).toNat := by
  rw [toNat_mapDuty params_legal, toNat_mapDuty params_legal]
  exact mapByte_strictMono (by decide) h

theorem byteBefore_of_before {bytes : Vector Byte N} {c d : Fin N}
    (h : Entry.Before ⟨c, mapDuty Config.params bytes[c]⟩ ⟨d, mapDuty Config.params bytes[d]⟩) : ByteBefore bytes c d := by
  obtain hlt | heq | hgt := Nat.lt_trichotomy bytes[c].toNat bytes[d].toNat
  · exact .inl hlt
  · have hByte := BitVec.eq_of_toNat_eq heq
    obtain hDuty | ⟨-, hChannel⟩ := h
    · rw [hByte] at hDuty
      exact absurd hDuty (Nat.lt_irrefl _)
    · exact .inr ⟨hByte, hChannel.le⟩
  · exact absurd h.duty_le (Nat.not_le_of_lt (mapDuty_strictMono hgt))

/-- Entries in order of position are in order of their bytes. -/
theorem IsStableSort.byteBefore {raw : Vector Ticks N} {x : Schedule} (h : IsStableSort raw x) {bytes : Vector Byte N}
    (hRaw : ∀ c : Fin N, raw[c] = mapDuty Config.params bytes[c]) {j k : Fin N} (hjk : j ≤ k) :
    ByteBefore bytes x[j].channel x[k].channel := by
  obtain hlt | rfl := Fin.lt_or_eq_of_le hjk
  · have hEntry : ∀ i : Fin N, x[i] = ⟨x[i].channel, mapDuty Config.params bytes[x[i].channel]⟩ := fun i => by
      rw [← hRaw, ← h.duty]
    have hBefore := h.2 j k hlt
    rw [hEntry j, hEntry k] at hBefore
    exact byteBefore_of_before hBefore
  · exact .inr ⟨rfl, le_rfl⟩

/-! ## The statements about transactions of at most N bytes -/

/-- Settles O17: the equation of a transaction, with SORT's arrangement, whose order is that of the bytes. -/
theorem wellFormedTransactionPublishes : Obligations.WellFormedTransactionPublishes := by
  unfold Obligations.WellFormedTransactionPublishes
  intro s bytes
  have hLength : bytes.toList.length ≤ N := by simp
  have hSort := published_isStableSort hLength s
  have hRaw := fillRaw_full s.rawDuty bytes
  have hChannel : ∀ c : Fin N, ∃ k : Fin N, (published _ hLength s).back[k].channel = c := fun c =>
    (hSort.1 c).imp fun k hk => by rw [hk]
  refine ⟨_, service_published hLength s, hSort.complete, hSort.sortedByDuty, fun k => (hSort.duty k).trans (hRaw _),
    fun c => ?_, fun c => ?_, rfl, rfl, ?_, rfl, setBack_front _ s, setBack_frontSel _ s, setBack_nextIndex _ s,
    setBack_tcnt _ s, setBack_ocr _ s, setBack_out _ s⟩
  · obtain ⟨k, rfl⟩ := hChannel c
    exact hSort.byteBefore hRaw (Fin.zero_le k)
  · obtain ⟨k, rfl⟩ := hChannel c
    exact hSort.byteBefore hRaw (Fin.le_last k)
  · show bytes.toList.length = N
    simp

/-- Settles O18: the same equation; where there is no byte, `raw_duty` is what it was. -/
theorem shortTransactionKeepsTheOtherDuties : Obligations.ShortTransactionKeepsTheOtherDuties := by
  unfold Obligations.ShortTransactionKeepsTheOtherDuties
  intro s bytes h
  refine ⟨_, service_published h s, rfl, rfl, setBack_front _ s, rfl, published_isStableSort h s, fun i => ?_⟩
  refine (fillRaw_getElem s.rawDuty bytes i).trans ?_
  cases bytes[i.val]? <;> rfl

/-- Settles O20: a byte for every channel fixes `raw_duty`, and the stable arrangement is unique. -/
theorem republishingIsIdempotent : Obligations.RepublishingIsIdempotent := by
  unfold Obligations.RepublishingIsIdempotent
  intro s s' t t' bytes hLength h h'
  cases (service_published hLength.le s).symm.trans h
  cases (service_published hLength.le s').symm.trans h'
  rw [published_back, published_back, fillRaw_eq_of_full s.rawDuty s'.rawDuty hLength]
  exact sortSchedule_eq_of_raw _ _ _

/-- Settles O22: the second transaction writes over all that the first wrote. -/
theorem unadoptedPublishIsSuperseded : Obligations.UnadoptedPublishIsSuperseded := by
  unfold Obligations.UnadoptedPublishIsSuperseded
  intro s t t' first second hFirst hSecond h h'
  rw [service_append (service_published hFirst.le s), service_published hSecond.le] at h
  rw [service_published hSecond.le] at h'
  rw [← Host.Outcome.next.inj h, ← Host.Outcome.next.inj h']
  exact published_published hSecond.le s hFirst.le hSecond

/-! ## A transaction of more than N bytes (R67, R57) -/

/-- Once a transaction is aborted, the rest of it changes nothing and is answered BUS_RESET. -/
theorem service_aborted {events : List Instr} {s : State} (hb : s.busState = .idle) (hr : s.resp = some .busReset)
    (h : ∀ i ∈ events, i = .stop ∨ ∃ raw, i = .data raw) : service events s = .next s := by
  have hSame : { s with resp := some .busReset } = s := by rw [← hr]
  induction events with
  | nil => rfl
  | cons i events ih =>
    have hExec : exec i s = .next s := by
      obtain rfl | ⟨raw, rfl⟩ := h i List.mem_cons_self
      · exact (dataAndStopOutsideATransactionDoNothing s 0 hb).2.trans (congrArg _ hSame)
      · exact (dataAndStopOutsideATransactionDoNothing s raw hb).1.trans (congrArg _ hSame)
    rw [service_cons hExec]
    exact ih fun j hj => h j (List.mem_cons_of_mem _ hj)

/-- The byte after the N-th aborts the transaction, whatever follows up to its STOP. -/
theorem service_overlong (full : List Byte) (h : full.length = N) (b : Byte) (rest : List Byte) (s : State) :
    service (transaction (full ++ b :: rest)) s = .next (abort (received full h.le s)) := by
  have hSplit : transaction (full ++ b :: rest) =
      (.addrW :: full.map .data) ++ (.data b :: (rest.map .data ++ [.stop])) := by
    simp [transaction]
  have hAbort : exec (.data b) (received full h.le s) = .next (abort (received full h.le s)) :=
    overflowingByteAborts _ b rfl h
  rw [hSplit, service_append (service_received h.le s), service_cons hAbort]
  refine service_aborted rfl rfl fun i hi => ?_
  obtain hData | hStop := List.mem_append.mp hi
  · obtain ⟨raw, -, rfl⟩ := List.mem_map.mp hData
    exact .inr ⟨raw, rfl⟩
  · exact .inl (List.mem_singleton.mp hStop)

/-- Settles O19: the first N bytes are received, the next aborts, and nothing after it is accepted. -/
theorem overlongTransactionPublishesNothing : Obligations.OverlongTransactionPublishesNothing := by
  unfold Obligations.OverlongTransactionPublishesNothing
  intro s bytes h
  obtain ⟨full, b, rest, hFull, rfl⟩ : ∃ full b rest, full.length = N ∧ bytes = full ++ b :: rest :=
    ⟨bytes.take N, bytes[N], bytes.drop (N + 1), List.length_take_of_le h.le, by simp⟩
  refine ⟨_, service_overlong full hFull b rest s, rfl, hFull, rfl, rfl, rfl, rfl, rfl, fun i => ?_⟩
  have hi : i.val < full.length := i.isLt.trans_eq hFull.symm
  show some (fillRaw s.rawDuty full)[i] = _
  rw [fillRaw_getElem, List.getElem?_append_left hi, List.getElem?_eq_getElem hi]
  rfl

/-! ## Without a STOP (R72) -/

/-- What the engine sees of the bus side, and the engine itself, are in `t` what they are in `s`. -/
abbrev NothingPublished (s t : State) : Prop :=
  t.sched0 = s.sched0 ∧ t.sched1 = s.sched1 ∧ t.frontSel = s.frontSel ∧ t.updatePending = s.updatePending ∧
  t.nextIndex = s.nextIndex ∧ t.tcnt = s.tcnt ∧ t.ocr = s.ocr ∧ t.out = s.out

theorem NothingPublished.trans {s t u : State} : NothingPublished s t → NothingPublished t u → NothingPublished s u
  | ⟨h1, h2, h3, h4, h5, h6, h7, h8⟩, ⟨g1, g2, g3, g4, g5, g6, g7, g8⟩ =>
    ⟨g1.trans h1, g2.trans h2, g3.trans h3, g4.trans h4, g5.trans h5, g6.trans h6, g7.trans h7, g8.trans h8⟩

theorem exec_bus_nothingPublished {i : Instr} {s t : State} (hBus : isBus i = true) (hStop : i ≠ .stop)
    (h : exec i s = .next t) : NothingPublished s t := by
  have hReset : i ≠ .reset := by
    rintro rfl
    cases hBus
  obtain ⟨hSched0, hSched1⟩ := exec_sameInstances h hReset fun hi => hStop hi.1
  obtain ⟨hTcnt, hOcr, hCursor, hOut, hSel, -, -, hPending⟩ := exec_bus_engineKept hBus h
  have hFlag : t.updatePending = s.updatePending := by
    cases hs : s.updatePending
    · exact Bool.eq_false_iff.mpr fun ht => hStop (exec_sets_pending h hs ht).1
    · exact hPending hs
  exact ⟨hSched0, hSched1, hSel, hFlag, hCursor, hTcnt, hOcr, hOut⟩

/-- Settles O21: no bus event but STOP publishes, by induction on the events. -/
theorem nothingIsPublishedWithoutAStop : Obligations.NothingIsPublishedWithoutAStop := by
  unfold Obligations.NothingIsPublishedWithoutAStop
  intro events s h
  induction events generalizing s with
  | nil => exact ⟨s, rfl, rfl, rfl, rfl, rfl, rfl, rfl, rfl, rfl⟩
  | cons i events ih =>
    obtain ⟨hBus, hStop⟩ := h i List.mem_cons_self
    obtain ⟨t, ht⟩ := exec_next i s
    obtain ⟨u, hu, hRest⟩ := ih t fun j hj => h j (List.mem_cons_of_mem _ hj)
    exact ⟨u, (service_cons ht events).trans hu, (exec_bus_nothingPublished hBus hStop ht).trans hRest⟩

end Sys2Proof.Machine
end

section
/-! The invariant of the machine between operations (10_state.md R11, R23, 43_pulse_engine.md R98): it holds at reset,
a TICK keeps it for every legal parameter set, and so does every step. The statements settled here: O1, O2, O3, O31,
O33, O37, O49, O50, O51. -/

namespace Sys2Proof.Machine

/-! ## Both schedules legal, whichever is in front -/

theorem front_scheduleOk {p : Params} {s : State} (h0 : ScheduleOk p s.sched0) (h1 : ScheduleOk p s.sched1) :
    ScheduleOk p s.front := by
  rw [State.front]
  split_ifs
  · exact h1
  · exact h0

theorem Inv.scheduleOk {p : Params} {s : State} (h : Inv p s) : ScheduleOk p s.front := by
  obtain ⟨-, -, -, h0, h1, -⟩ := h
  exact front_scheduleOk h0 h1

theorem Inv.engineOk {p : Params} {s : State} (h : Inv p s) : EngineOk p s := by
  obtain ⟨-, -, -, -, -, hEngine⟩ := h
  exact hEngine

/-! ## The engine under the invariant (43_pulse_engine.md R98) -/

section
variable {p : Params} {s : State}

/-- Below the last count the counter goes up by one and stays inside the frame. -/
theorem toNat_tcnt_succ (hp : p.Legal) (hTcnt : s.tcnt.toNat < p.frameTicks) (h : ovfHit p s = false) :
    (s.tcnt + 1).toNat = s.tcnt.toNat + 1 ∧ s.tcnt.toNat + 1 < p.frameTicks := by
  have hNotLast : s.tcnt.toNat ≠ p.frameTicks - 1 := of_decide_eq_false h
  obtain ⟨-, -, hFrame, -⟩ := hp
  rw [BitVec.toNat_add, Nat.mod_eq_of_lt (show s.tcnt.toNat + (1 : Ticks).toNat < 2 ^ 16 by simp; omega)]
  exact ⟨rfl, by omega⟩

theorem frameStart_tcnt (s : State) : (frameStart s).tcnt = s.tcnt := by
  rw [frameStart_eq]

theorem frameStart_nextIndex (s : State) : (frameStart s).nextIndex = 0 := by
  rw [frameStart_eq]

/-- The compare register is armed from the schedule in front after the swap. -/
theorem frameStart_ocr (s : State) : (frameStart s).ocr = (frameStart s).front[0].duty := rfl

theorem frameStart_scheduleOk (h0 : ScheduleOk p s.sched0) (h1 : ScheduleOk p s.sched1) :
    ScheduleOk p (frameStart s).front := by
  obtain ⟨hSched0, hSched1⟩ := frameStart_sameInstances s
  exact front_scheduleOk (hSched0 ▸ h0) (hSched1 ▸ h1)

/-- A legal schedule has no duty of 0, so a frame starts with the compare register ahead of the counter. -/
theorem frameStart_ocr_pos (hp : p.Legal) (h : ScheduleOk p (frameStart s).front) : 0 < (frameStart s).ocr.toNat := by
  obtain ⟨-, -, hRange⟩ := h
  obtain ⟨-, ⟨hMin, -⟩, -⟩ := hp
  exact Nat.lt_of_lt_of_le hMin (hRange 0).1

theorem frameStart_engineOk (hp : p.Legal) (h : ScheduleOk p (frameStart s).front) (hTcnt : s.tcnt = 0) :
    EngineOk p (frameStart s) := by
  have hOcr := frameStart_ocr_pos hp h
  refine ⟨?_, fun k hk => ⟨?_, ?_⟩, fun k => ?_⟩
  · obtain ⟨-, ⟨hMin, hMinMax, hMax⟩, -⟩ := hp
    rw [frameStart_tcnt, hTcnt]
    show 0 < p.frameTicks
    omega
  · rw [frameStart_nextIndex] at hk
    obtain rfl : k = 0 := Fin.ext hk
    exact frameStart_ocr s
  · rw [frameStart_tcnt, hTcnt]
    exact hOcr
  · rw [frameStart_out_active, frameStart_nextIndex]
    exact (decide_eq_true (Nat.zero_le _)).symm

/-- COMPARE_MATCH at the count of the counter arms the next duty ahead of it, and keeps exactly the outputs of the
entries left active. -/
theorem compareMatch_engineOk (hComplete : Complete s.front) (hTcnt : s.tcnt.toNat < p.frameTicks)
    (hOut : ∀ k : Fin N, s.out[s.front[k].channel] = decide (s.nextIndex.val ≤ k.val)) :
    EngineOk p (compareMatch p s.tcnt.toNat s) := by
  by_cases h : s.nextIndex.val < N
  · obtain ⟨m, hm⟩ := compareMatch_serves p s.tcnt.toNat h
    refine ⟨by rwa [compareMatch_tcnt], fun k hk => ?_, fun k => ?_⟩
    · obtain ⟨hAhead, hOcr⟩ := hm.armed k (hk.trans hm.cursor)
      rw [compareMatch_front, compareMatch_tcnt, hOcr]
      exact ⟨rfl, by omega⟩
    · rw [Bool.eq_iff_iff]
      simp only [compareMatch_front, hm.out, hOut, hm.cursor, decide_eq_true_eq]
      refine ⟨fun ⟨hLeft, hOthers⟩ => ?_, fun hLeft => ⟨by omega, fun q _ hq he => ?_⟩⟩
      · exact Nat.le_of_not_lt fun hServed => hOthers k hLeft hServed rfl
      · obtain rfl : q = k := hComplete.channel_injective he
        omega
  · rw [compareMatch_done p _ (by omega)]
    exact ⟨hTcnt, fun k hk => absurd (hk ▸ k.isLt) h, hOut⟩

/-- What a TICK does under the invariant: it counts, counts and serves a match, or starts a frame; the wrap serves no
match, because the first duty is not 0. -/
theorem countTick_cases_of_inv (hp : p.Legal) (h : Inv p s) :
    (ovfHit p s = false ∧ s.tcnt + 1 ≠ s.ocr ∧ countTick p s = setTcnt (s.tcnt + 1) s) ∨
    (ovfHit p s = false ∧ s.tcnt + 1 = s.ocr ∧
      countTick p s = compareMatch p (s.tcnt + 1).toNat (setTcnt (s.tcnt + 1) s)) ∨
    (ovfHit p s = true ∧ ScheduleOk p (frameStart (setTcnt 0 s)).front ∧ countTick p s = frameStart (setTcnt 0 s)) := by
  obtain ⟨-, -, -, h0, h1, -⟩ := h
  have hFront := frameStart_scheduleOk (s := setTcnt 0 s) h0 h1
  obtain hCount | hMatch | ⟨hOvf, -, hEq⟩ | ⟨-, hOcr, -⟩ := countTick_cases p s
  · exact .inl hCount
  · exact .inr (.inl hMatch)
  · exact .inr (.inr ⟨hOvf, hFront, hEq⟩)
  · have hPos := frameStart_ocr_pos hp hFront
    rw [hOcr] at hPos
    exact absurd hPos (Nat.lt_irrefl 0)

theorem countTick_engineOk (hp : p.Legal) (h : Inv p s) : EngineOk p (countTick p s) := by
  obtain ⟨hComplete, -, -⟩ := h.scheduleOk
  obtain ⟨hTcnt, hArmed, hOut⟩ := h.engineOk
  obtain ⟨hOvf, hOcr, hEq⟩ | ⟨hOvf, hOcr, hEq⟩ | ⟨hOvf, hFront, hEq⟩ := countTick_cases_of_inv hp h <;> rw [hEq]
  · obtain ⟨hSucc, hFrame⟩ := toNat_tcnt_succ hp hTcnt hOvf
    refine ⟨hSucc.trans_lt hFrame, fun k hk => ?_, hOut⟩
    obtain ⟨hDuty, hAhead⟩ := hArmed k hk
    have hNe : (s.tcnt + 1).toNat ≠ s.ocr.toNat := fun he => hOcr (BitVec.eq_of_toNat_eq he)
    exact ⟨hDuty, show (s.tcnt + 1).toNat < s.ocr.toNat by omega⟩
  · obtain ⟨hSucc, hFrame⟩ := toNat_tcnt_succ hp hTcnt hOvf
    exact compareMatch_engineOk (s := setTcnt (s.tcnt + 1) s) hComplete (hSucc.trans_lt hFrame) hOut
  · exact frameStart_engineOk hp hFront rfl

end

/-! ## Every step keeps the invariant -/

/-- Settles O51: the engine is right after each case of TICK, and TICK writes nothing else the invariant speaks of. -/
theorem tickKeepsTheInvariantForEveryLegalParameterSet : Obligations.TickKeepsTheInvariantForEveryLegalParameterSet := by
  unfold Obligations.TickKeepsTheInvariantForEveryLegalParameterSet
  intro p hp s h
  have hEngine := countTick_engineOk hp h
  obtain ⟨hTev, hSettled, hRaw, h0, h1, -⟩ := h
  obtain ⟨hBus, -, hRawKept, ⟨hSched0, hSched1⟩, -, hTevKept, -⟩ := countTick_busSideKept p s
  rw [Inv, hTevKept, Settled, hBus, hRawKept, hSched0, hSched1]
  exact ⟨hTev, hSettled, hRaw, h0, h1, hEngine⟩

theorem exec_tick_inv {s t : State} (h : Inv Config.params s) (ht : exec .tick s = .next t) : Inv Config.params t := by
  cases ht
  exact tickKeepsTheInvariantForEveryLegalParameterSet _ params_legal (respond none s) h

theorem EngineOk.of_engineKept {p : Params} {s t : State} (h : EngineOk p s) (hKept : EngineKept s t) : EngineOk p t := by
  obtain ⟨hTcnt, hOcr, hCursor, hOut, -, hFront, -, -⟩ := hKept
  simp only [EngineOk, hTcnt, hOcr, hCursor, hOut, hFront]
  exact h

theorem setBack_scheduleOk {p : Params} {s : State} {sch : Schedule} (hSch : ScheduleOk p sch) (h0 : ScheduleOk p s.sched0)
    (h1 : ScheduleOk p s.sched1) : ScheduleOk p (setBack sch s).sched0 ∧ ScheduleOk p (setBack sch s).sched1 := by
  rw [setBack_sched0, setBack_sched1]
  split_ifs
  · exact ⟨hSch, h1⟩
  · exact ⟨h0, hSch⟩

theorem storeRaw_inRange {p : Params} {s : State} {d : Ticks} (hi : s.idx.val < N) (hd : DutyInRange p d)
    (hRaw : ∀ c : Fin N, DutyInRange p s.rawDuty[c]) (c : Fin N) : DutyInRange p (storeRaw d s hi).rawDuty[c] := by
  show DutyInRange p (s.rawDuty.set s.idx.val d hi)[c.val]
  rw [Vector.getElem_set]
  split_ifs
  · exact hd
  · exact hRaw c

/-- A bus event keeps the engine, stores mapped duties only, and sorts duties that are in range. -/
theorem exec_bus_inv {i : Instr} {s t : State} (hi : isBus i = true) (h : Inv Config.params s) (ht : exec i s = .next t) :
    Inv Config.params t := by
  obtain ⟨hTev, hSettled, hRaw, h0, h1, hEngine⟩ := h
  have hKept := exec_bus_engineKept hi ht
  have hEngine' := hEngine.of_engineKept hKept
  have hTev' := hKept.tev.trans hTev
  obtain ⟨-, hEq⟩ | ⟨raw, hlt, -, hb, hEq⟩ | ⟨-, -, hEq⟩ | ⟨-, hEq⟩ := exec_bus_cases s hi <;> cases hEq.symm.trans ht
  · exact ⟨hTev', .inr rfl, hRaw, h0, h1, hEngine'⟩
  · exact ⟨hTev', hSettled, storeRaw_inRange hlt (mapDuty_inRange params_legal raw) hRaw, h0, h1, hEngine'⟩
  · have hSort := (sortSchedule_isStableSort s.rawDuty s.back).scheduleOk hRaw
    generalize sortSchedule s.rawDuty s.back = sch at hSort hEngine' hTev'
    obtain ⟨h0', h1'⟩ := setBack_scheduleOk hSort h0 h1
    have hRaw' : ∀ c : Fin N, DutyInRange Config.params (setBack sch s).rawDuty[c] := by
      rw [setBack_rawDuty]
      exact hRaw
    exact ⟨hTev', .inl rfl, hRaw', h0', h1', hEngine'⟩
  · exact ⟨hTev', .inl rfl, hRaw, h0, h1, hEngine'⟩

/-- Settles O49: the reset values, one conjunct after the other. -/
theorem resetMeetsTheInvariant : Obligations.ResetMeetsTheInvariant := by
  unfold Obligations.ResetMeetsTheInvariant
  decide

/-- Settles O50: with no internal timer event pending a step services RESET, a TICK or a bus event, or nothing. -/
theorem everyStepKeepsTheInvariant : Obligations.EveryStepKeepsTheInvariant := by
  unfold Obligations.EveryStepKeepsTheInvariant
  intro s t h ht
  obtain ⟨l, hEq | ⟨i, hEq, hi⟩⟩ := step_cases h.1
  · cases hEq.symm.trans ht
    exact h
  · have hExec := hEq.symm.trans ht
    obtain ⟨rfl, -⟩ | rfl | hBus := hi
    · cases hExec
      exact resetMeetsTheInvariant
    · exact exec_tick_inv (s := withInputs l s) h hExec
    · exact exec_bus_inv (s := withInputs l s) hBus h hExec

/-! ## Consequences of the invariant -/

/-- Settles O31: the wrap arms the first duty, which is not 0. -/
theorem noTickRaisesBothEvents : Obligations.NoTickRaisesBothEvents := by
  unfold Obligations.NoTickRaisesBothEvents
  intro s h hOvf
  obtain ⟨-, -, -, h0, h1, -⟩ := h
  have hPos := frameStart_ocr_pos params_legal (frameStart_scheduleOk (s := setTcnt 0 s) h0 h1)
  rw [advance_wrap hOvf]
  refine decide_eq_false fun hHit => ?_
  rw [← hHit, frameStart_tcnt] at hPos
  exact absurd hPos (Nat.lt_irrefl 0)

/-- Settles O33: an entry left would have a duty ahead of the counter, and the last duty is the largest. -/
theorem everyOutputFallsByTheLastDuty : Obligations.EveryOutputFallsByTheLastDuty := by
  unfold Obligations.EveryOutputFallsByTheLastDuty
  intro s h hLast
  obtain ⟨hComplete, hSorted, -⟩ := h.scheduleOk
  obtain ⟨-, hArmed, hOut⟩ := h.engineOk
  have hDone : s.nextIndex.val = N := by
    by_contra hne
    obtain ⟨k, hk⟩ : ∃ k : Fin N, k.val = s.nextIndex.val := ⟨⟨s.nextIndex.val, by omega⟩, rfl⟩
    obtain ⟨hOcr, hAhead⟩ := hArmed k hk
    have hDuty := hSorted k 11 (Fin.le_last k)
    rw [hOcr] at hAhead
    omega
  refine ⟨hDone, fun c => ?_⟩
  obtain ⟨k, rfl, -⟩ := hComplete c
  rw [hOut, hDone]
  exact decide_eq_false (Nat.not_le_of_lt k.isLt)

theorem countTick_tcnt {p : Params} {s : State} (hp : p.Legal) (h : Inv p s) :
    (countTick p s).tcnt.toNat = (s.tcnt.toNat + 1) % p.frameTicks := by
  obtain ⟨hTcnt, -⟩ := h.engineOk
  obtain ⟨hOvf, -, hEq⟩ | ⟨hOvf, -, hEq⟩ | ⟨hOvf, -, hEq⟩ := countTick_cases_of_inv hp h <;> rw [hEq]
  · obtain ⟨hSucc, hFrame⟩ := toNat_tcnt_succ hp hTcnt hOvf
    exact hSucc.trans (Nat.mod_eq_of_lt hFrame).symm
  · obtain ⟨hSucc, hFrame⟩ := toNat_tcnt_succ hp hTcnt hOvf
    rw [compareMatch_tcnt]
    exact hSucc.trans (Nat.mod_eq_of_lt hFrame).symm
  · have hLast : s.tcnt.toNat = p.frameTicks - 1 := of_decide_eq_true hOvf
    rw [frameStart_tcnt, hLast, Nat.sub_add_cancel (by omega), Nat.mod_self]
    rfl

/-- Settles O37, by induction on the ticks: each adds one modulo the frame and keeps the invariant. -/
theorem ticksCountModuloTheFrame : Obligations.TicksCountModuloTheFrame := by
  unfold Obligations.TicksCountModuloTheFrame
  intro n s t h ht
  induction n generalizing s with
  | zero =>
    cases ht
    exact (Nat.mod_eq_of_lt h.engineOk.1).symm
  | succ n ih =>
    obtain ⟨u, hu⟩ := exec_next .tick s
    have hTcnt : u.tcnt.toNat = (s.tcnt.toNat + 1) % 20000 := by
      cases hu
      exact countTick_tcnt params_legal (s := respond none s) h
    rw [ticks, List.replicate_succ, service_cons hu] at ht
    rw [ih u (exec_tick_inv h hu) ht, hTcnt]
    omega

/-! ## Reset (10_state.md R28, 70_reset_and_hazards.md R124, R125) -/

/-- Settles O1: the reset values, written out. -/
theorem resetStateHasTheSpecValues : Obligations.ResetStateHasTheSpecValues := by
  unfold Obligations.ResetStateHasTheSpecValues
  decide

/-- Settles O2: RESET writes every element but the deliveries still to come. -/
theorem resetEventRestoresTheResetState : Obligations.ResetEventRestoresTheResetState :=
  fun _ => rfl

theorem ticks_succ (n : Nat) : ticks (n + 1) = ticks n ++ [.tick] := List.replicate_succ'

/-- The reset state with the counter at `n`. -/
def countedTo (n : Nat) : State := { State.reset with tcnt := BitVec.ofNat 16 n }

/-- From reset a TICK below the last count meets no compare register: that of the reset state is 0. -/
theorem exec_tick_countedTo {n : Nat} (h : n < 19999) : exec .tick (countedTo n) = .next (countedTo (n + 1)) := by
  have hTcnt : (countedTo n).tcnt.toNat = n := Nat.mod_eq_of_lt (by omega)
  have hSucc : (countedTo n).tcnt + 1 = BitVec.ofNat 16 (n + 1) := (BitVec.ofNat_add n 1).symm
  have hOcr : (countedTo n).tcnt + 1 ≠ (countedTo n).ocr := fun he => by
    have hZero : (n + 1) % 2 ^ 16 = 0 := congrArg BitVec.toNat (hSucc.symm.trans he)
    omega
  obtain ⟨hCounts, -⟩ := tickCountsAndServesItsEvents (countedTo n)
  rw [hCounts (by omega) hOcr, hSucc]
  rfl

theorem service_ticks_reset (n : Nat) (h : n ≤ 19999) : service (ticks n) State.reset = .next (countedTo n) := by
  induction n with
  | zero => rfl
  | succ n ih =>
    rw [ticks_succ, service_append (ih (by omega)), service_cons (exec_tick_countedTo (by omega))]
    rfl

/-- Settles O3: the ticks from reset only count, by induction, and at the last count a TICK is a frame start whose
first duty is DUTY_MIN. -/
theorem firstFrameStartsAfterTwentyThousandTicks : Obligations.FirstFrameStartsAfterTwentyThousandTicks := by
  unfold Obligations.FirstFrameStartsAfterTwentyThousandTicks
  refine ⟨service_ticks_reset, frameStart (respond none { countedTo 19999 with tcnt := 0 }), ?_, frameStart_out_active _,
    rfl, rfl, rfl, rfl⟩
  obtain ⟨-, -, hWraps, -⟩ := tickCountsAndServesItsEvents (countedTo 19999)
  rw [show ticks 20000 = ticks 19999 ++ [.tick] from ticks_succ 19999,
    service_append (service_ticks_reset 19999 (Nat.le_refl _)),
    service_cons ((hWraps rfl (by decide)).trans (exec_frameStart _))]
  rfl

end Sys2Proof.Machine
end

section
/-! The output waveform (43_pulse_engine.md R100): the groups of entries that fall together, and that every step keeps
the waveform of the frame. The statements settled here: O34, O35, O36. -/

namespace Sys2Proof.Machine

/-! ## Groups of entries -/

section
variable (margin : Nat) (sch : Schedule)

/-- The fall time of an entry is the duty of its head. -/
theorem fallTime_of_head {margin : Nat} {sch : Schedule} {m k : Fin N} (h : groupHead margin sch m.val m.isLt = k) :
    fallTime margin sch m = sch[k].duty.toNat := by
  subst h
  rfl

/-- The next entry joins the group of the one before it, or is above the reach of its head and heads a group of its
own. -/
theorem groupHead_succ_cases (m : Nat) (h : m + 1 < N) :
    (sch[m + 1].duty.toNat ≤ fallTime margin sch ⟨m, Nat.lt_of_succ_lt h⟩ +
        (m + 1 - (groupHead margin sch m (Nat.lt_of_succ_lt h)).val) * margin ∧
      groupHead margin sch (m + 1) h = groupHead margin sch m (Nat.lt_of_succ_lt h)) ∨
    (fallTime margin sch ⟨m, Nat.lt_of_succ_lt h⟩ +
        (m + 1 - (groupHead margin sch m (Nat.lt_of_succ_lt h)).val) * margin < sch[m + 1].duty.toNat ∧
      groupHead margin sch (m + 1) h = ⟨m + 1, h⟩) := by
  rw [groupHead]
  split_ifs with hJoins
  · exact .inl ⟨hJoins, rfl⟩
  · exact .inr ⟨Nat.lt_of_not_le hJoins, rfl⟩

theorem groupHead_le (m : Nat) (h : m < N) : (groupHead margin sch m h).val ≤ m := by
  induction m with
  | zero => exact Nat.le_refl 0
  | succ m ih =>
    obtain ⟨-, hEq⟩ | ⟨-, hEq⟩ := groupHead_succ_cases margin sch m h <;> rw [hEq]
    exact (ih _).trans (Nat.le_succ m)

/-- Every entry is within the reach of its head. -/
theorem duty_le_reach (m : Nat) (h : m < N) :
    sch[m].duty.toNat ≤ fallTime margin sch ⟨m, h⟩ + (m - (groupHead margin sch m h).val) * margin := by
  cases m with
  | zero => exact Nat.le_add_right _ _
  | succ m =>
    obtain ⟨hReach, hEq⟩ | ⟨-, hEq⟩ := groupHead_succ_cases margin sch m h <;> rw [fallTime_of_head hEq, hEq]
    · exact hReach
    · exact Nat.le_add_right _ _

theorem groupHead_mono {j m : Nat} (hjm : j ≤ m) (h : m < N) :
    (groupHead margin sch j (hjm.trans_lt h)).val ≤ (groupHead margin sch m h).val := by
  induction m, hjm using Nat.le_induction with
  | base => exact Nat.le_refl _
  | succ m hjm ih =>
    have hm : m < N := Nat.lt_of_succ_lt h
    obtain ⟨-, hEq⟩ | ⟨-, hEq⟩ := groupHead_succ_cases margin sch m h <;> rw [hEq]
    · exact ih hm
    · exact (ih hm).trans ((groupHead_le margin sch m hm).trans (Nat.le_succ m))

variable {margin sch}

/-- In a sorted schedule a later entry falls no earlier. -/
theorem fallTime_mono (hSorted : SortedByDuty sch) {j m : Fin N} (h : j ≤ m) :
    fallTime margin sch j ≤ fallTime margin sch m :=
  hSorted _ _ (groupHead_mono margin sch h m.isLt)

/-- An entry that falls later than the one before it heads its group. -/
theorem groupHead_eq_self {k : Fin N}
    (h : ∀ j : Fin N, j.val + 1 = k.val → fallTime margin sch j < fallTime margin sch k) :
    groupHead margin sch k.val k.isLt = k := by
  obtain ⟨k, hk⟩ := k
  cases k with
  | zero => rfl
  | succ j =>
    obtain ⟨-, hEq⟩ | ⟨-, hEq⟩ := groupHead_succ_cases margin sch j hk
    · have hLater := h ⟨j, Nat.lt_of_succ_lt hk⟩ rfl
      rw [fallTime_of_head (m := ⟨j + 1, hk⟩) hEq] at hLater
      exact absurd hLater (Nat.lt_irrefl _)
    · exact hEq

/-- The entries within the reach of a head are in its group. -/
theorem groupHead_of_reach {k : Fin N} (hHead : groupHead margin sch k.val k.isLt = k) {q : Nat} (hkq : k.val ≤ q) (hq : q < N)
    (hReach : ∀ r : Fin N, k.val < r.val → r.val ≤ q → sch[r].duty.toNat ≤ sch[k].duty.toNat + (r.val - k.val) * margin) :
    groupHead margin sch q hq = k := by
  induction q, hkq using Nat.le_induction with
  | base => exact hHead
  | succ q hkq ih =>
    have hPrev := ih (Nat.lt_of_succ_lt hq) fun r hr hrq => hReach r hr (hrq.trans (Nat.le_succ q))
    have hDuty := hReach ⟨q + 1, hq⟩ (Nat.lt_succ_of_le hkq) (Nat.le_refl _)
    obtain ⟨-, hEq⟩ | ⟨hAbove, -⟩ := groupHead_succ_cases margin sch q hq
    · exact hEq.trans hPrev
    · rw [fallTime_of_head hPrev, hPrev] at hAbove
      exact absurd hDuty (Nat.not_le_of_lt hAbove)

/-- The first entry above the reach of a head heads the next group. -/
theorem groupHead_of_above {k : Fin N} {q : Nat} (hq : q + 1 < N)
    (hPrev : groupHead margin sch q (Nat.lt_of_succ_lt hq) = k)
    (hAbove : sch[k].duty.toNat + (q + 1 - k.val) * margin < sch[q + 1].duty.toNat) :
    groupHead margin sch (q + 1) hq = ⟨q + 1, hq⟩ := by
  obtain ⟨hReach, -⟩ | ⟨-, hEq⟩ := groupHead_succ_cases margin sch q hq
  · rw [fallTime_of_head hPrev, hPrev] at hReach
    exact absurd hReach (Nat.not_le_of_lt hAbove)
  · exact hEq

end

/-- Settles O34: an entry is in its head's reach, and the head is before it in the sorted schedule. -/
theorem fallIsNeverLateAndBoundedlyEarly : Obligations.FallIsNeverLateAndBoundedlyEarly := by
  unfold Obligations.FallIsNeverLateAndBoundedlyEarly
  intro margin sch hSorted m
  have hLe := groupHead_le margin sch m.val m.isLt
  have hNotLate : fallTime margin sch m ≤ sch[m].duty.toNat := hSorted _ m hLe
  have hReach : sch[m].duty.toNat ≤ _ := duty_le_reach margin sch m.val m.isLt
  refine ⟨hLe, hNotLate, hReach, fun hZero => Nat.le_antisymm hNotLate ?_⟩
  subst hZero
  rwa [Nat.mul_zero] at hReach

/-! ## The waveform as a statement about the cursor -/

/-- The entries left to serve are those whose fall time is still ahead of the counter. -/
abbrev CursorAtFall (margin : Nat) (s : State) : Prop :=
  ∀ m : Fin N, s.tcnt.toNat < fallTime margin s.front m ↔ s.nextIndex.val ≤ m.val

/-- With exactly the outputs of the entries left active, the waveform says where the cursor is. -/
theorem waveOk_iff_cursorAtFall {p : Params} {s : State} (h : EngineOk p s) : WaveOk p s ↔ CursorAtFall p.margin s := by
  obtain ⟨-, -, hOut⟩ := h
  refine forall_congr' fun m => ?_
  rw [hOut m, decide_eq_decide]
  exact iff_comm

section
variable {p : Params} {s : State}

/-- The entry at the cursor heads a group: the one before it has fallen already. -/
theorem CursorAtFall.groupHead_eq (h : CursorAtFall p.margin s) {k : Fin N} (hk : k.val = s.nextIndex.val) :
    groupHead p.margin s.front k.val k.isLt = k := by
  refine groupHead_eq_self fun j hj => ?_
  have hFallen : ¬s.tcnt.toNat < fallTime p.margin s.front j := fun hAhead => by
    have := (h j).mp hAhead
    omega
  exact Nat.lt_of_le_of_lt (Nat.le_of_not_lt hFallen) ((h k).mpr hk.ge)

/-- So the fall time of the entry at the cursor is its own duty. -/
theorem CursorAtFall.fallTime_eq (h : CursorAtFall p.margin s) {k : Fin N} (hk : k.val = s.nextIndex.val) :
    fallTime p.margin s.front k = s.front[k].duty.toNat :=
  fallTime_of_head (h.groupHead_eq hk)

/-- A COMPARE_MATCH at the duty of a head serves the group of that head: the entries after it fall later. -/
theorem Serves.fallTime_served {t0 m : Nat} {t : State} (hm : Serves p t0 m s t) (hSorted : SortedByDuty s.front) {k : Fin N}
    (hk : k.val = s.nextIndex.val) (hHead : groupHead p.margin s.front k.val k.isLt = k)
    (hDuty : s.front[k].duty.toNat = t0) {q : Fin N} (hq : s.nextIndex.val ≤ q.val) :
    t0 < fallTime p.margin s.front q ↔ s.nextIndex.val + m ≤ q.val := by
  have hGroup : ∀ r (hr : r < N), s.nextIndex.val ≤ r → r < s.nextIndex.val + m → groupHead p.margin s.front r hr = k :=
    fun r hr hle hlt => groupHead_of_reach hHead (hk.trans_le hle) hr fun j hj hjr => by
      rw [hDuty, hk]
      exact hm.elapsed j (hk ▸ hj) (hjr.trans_lt hlt)
  have hPos := hm.pos
  constructor
  · refine fun hAhead => Nat.le_of_not_lt fun hServed => ?_
    rw [fallTime_of_head (hGroup q.val q.isLt hq hServed), hDuty] at hAhead
    exact absurd hAhead (Nat.lt_irrefl _)
  · intro hLeft
    obtain ⟨n, rfl⟩ : ∃ n, m = n + 1 := ⟨m - 1, by omega⟩
    have hLt : s.nextIndex.val + n + 1 < N := hLeft.trans_lt q.isLt
    obtain ⟨hAbove, -⟩ := hm.armed ⟨_, hLt⟩ rfl
    have hNext := groupHead_of_above hLt (hGroup _ _ (by omega) (by omega)) (by
      rw [hDuty, hk, show s.nextIndex.val + n + 1 - s.nextIndex.val = n + 1 by omega]
      exact hAbove)
    calc t0 < s.front[s.nextIndex.val + n + 1].duty.toNat := (Nat.le_add_right _ _).trans_lt hAbove
      _ = fallTime p.margin s.front ⟨_, hLt⟩ := (fallTime_of_head (m := ⟨_, hLt⟩) hNext).symm
      _ ≤ fallTime p.margin s.front q := fallTime_mono hSorted (Fin.le_def.mpr hLeft)

/-! ## A TICK keeps the waveform -/

/-- A frame starts with every output active: no duty is 0. -/
theorem frameStart_cursorAtFall (hp : p.Legal) (h : ScheduleOk p (frameStart s).front) (hTcnt : s.tcnt = 0) :
    CursorAtFall p.margin (frameStart s) := by
  obtain ⟨-, -, hRange⟩ := h
  obtain ⟨-, ⟨hMin, -⟩, -⟩ := hp
  intro m
  rw [frameStart_tcnt, hTcnt, frameStart_nextIndex]
  exact iff_of_true (Nat.lt_of_lt_of_le hMin (hRange _).1) (Nat.zero_le _)

/-- A TICK that only counts passes no fall time: the next one is the duty armed. -/
theorem cursorAtFall_of_count (hInv : Inv p s) (hCursor : CursorAtFall p.margin s)
    (hSucc : (s.tcnt + 1).toNat = s.tcnt.toNat + 1) (hOcr : s.tcnt + 1 ≠ s.ocr) :
    CursorAtFall p.margin (setTcnt (s.tcnt + 1) s) := by
  obtain ⟨-, hSorted, -⟩ := hInv.scheduleOk
  obtain ⟨-, hArmed, -⟩ := hInv.engineOk
  intro m
  show (s.tcnt + 1).toNat < fallTime p.margin s.front m ↔ s.nextIndex.val ≤ m.val
  rw [hSucc]
  refine ⟨fun hAhead => (hCursor m).mp (by omega), fun hLeft => ?_⟩
  obtain ⟨k, hk⟩ : ∃ k : Fin N, k.val = s.nextIndex.val := ⟨⟨s.nextIndex.val, hLeft.trans_lt m.isLt⟩, rfl⟩
  obtain ⟨hDuty, hAhead⟩ := hArmed k hk
  have hNe : (s.tcnt + 1).toNat ≠ s.ocr.toNat := fun he => hOcr (BitVec.eq_of_toNat_eq he)
  calc s.tcnt.toNat + 1 < s.ocr.toNat := by omega
    _ = fallTime p.margin s.front k := by rw [hDuty, hCursor.fallTime_eq hk]
    _ ≤ fallTime p.margin s.front m := fallTime_mono hSorted (Fin.le_def.mpr (hk ▸ hLeft))

/-- A TICK that serves a match serves exactly the group whose fall time the counter has reached. -/
theorem cursorAtFall_of_match (hInv : Inv p s) (hCursor : CursorAtFall p.margin s)
    (hSucc : (s.tcnt + 1).toNat = s.tcnt.toNat + 1) (hOcr : s.tcnt + 1 = s.ocr) :
    CursorAtFall p.margin (compareMatch p (s.tcnt + 1).toNat (setTcnt (s.tcnt + 1) s)) := by
  obtain ⟨-, hSorted, -⟩ := hInv.scheduleOk
  obtain ⟨-, hArmed, -⟩ := hInv.engineOk
  have hServedBefore : ∀ q : Fin N, q.val < s.nextIndex.val → ¬(s.tcnt + 1).toNat < fallTime p.margin s.front q :=
    fun q hq hAhead => Nat.not_le_of_lt hq ((hCursor q).mp (by omega))
  intro q
  rw [compareMatch_tcnt, compareMatch_front]
  show (s.tcnt + 1).toNat < fallTime p.margin s.front q ↔ _
  by_cases h : s.nextIndex.val < N
  · obtain ⟨m, hm⟩ := compareMatch_serves p (s.tcnt + 1).toNat (s := setTcnt (s.tcnt + 1) s) h
    rw [hm.cursor]
    by_cases hq : s.nextIndex.val ≤ q.val
    · obtain ⟨hDuty, -⟩ := hArmed ⟨_, h⟩ rfl
      exact hm.fallTime_served hSorted rfl (hCursor.groupHead_eq rfl) (by rw [hOcr, hDuty]; rfl) hq
    · exact iff_of_false (hServedBefore q (by omega)) (show ¬s.nextIndex.val + m ≤ q.val by omega)
  · rw [compareMatch_done p _ (show (setTcnt (s.tcnt + 1) s).nextIndex.val = N by rw [setTcnt_nextIndex]; omega)]
    exact iff_of_false (hServedBefore q (by omega)) (show ¬s.nextIndex.val ≤ q.val by omega)

theorem countTick_waveOk (hp : p.Legal) (hInv : Inv p s) (hWave : WaveOk p s) : WaveOk p (countTick p s) := by
  have hCursor := (waveOk_iff_cursorAtFall hInv.engineOk).mp hWave
  obtain ⟨hTcnt, -⟩ := hInv.engineOk
  rw [waveOk_iff_cursorAtFall (countTick_engineOk hp hInv)]
  obtain ⟨hOvf, hOcr, hEq⟩ | ⟨hOvf, hOcr, hEq⟩ | ⟨-, hFront, hEq⟩ := countTick_cases_of_inv hp hInv <;> rw [hEq]
  · exact cursorAtFall_of_count hInv hCursor (toNat_tcnt_succ hp hTcnt hOvf).1 hOcr
  · exact cursorAtFall_of_match hInv hCursor (toNat_tcnt_succ hp hTcnt hOvf).1 hOcr
  · exact frameStart_cursorAtFall hp hFront rfl

end

/-! ## The statements -/

/-- Settles O35: under the invariant the wrap is a frame start, and no duty of a legal schedule is 0. -/
theorem waveformBeginsAtTheWrap : Obligations.WaveformBeginsAtTheWrap := by
  unfold Obligations.WaveformBeginsAtTheWrap
  intro s h hLast
  have hOvf : ovfHit Config.params (respond none s) = true := decide_eq_true hLast
  obtain ⟨hNoOvf, -⟩ | ⟨hNoOvf, -⟩ | ⟨-, hFront, hEq⟩ := countTick_cases_of_inv params_legal (s := respond none s) h
  · cases hOvf.symm.trans hNoOvf
  · cases hOvf.symm.trans hNoOvf
  · refine ⟨_, (exec_tick s).trans (congrArg _ hEq), frameStart_tcnt _, frameStart_out_active _, ?_⟩
    rw [waveOk_iff_cursorAtFall (frameStart_engineOk params_legal hFront rfl)]
    exact frameStart_cursorAtFall params_legal hFront rfl

theorem WaveOk.of_engineKept {p : Params} {s t : State} (h : WaveOk p s) (hKept : EngineKept s t) : WaveOk p t := by
  obtain ⟨hTcnt, -, -, hOut, -, hFront, -, -⟩ := hKept
  simp only [WaveOk, hTcnt, hOut, hFront]
  exact h

/-- Settles O36: a bus event keeps the counter, the outputs and the front, and a TICK serves the group whose fall time
it reaches, or starts a frame. -/
theorem everyStepKeepsTheWaveform : Obligations.EveryStepKeepsTheWaveform := by
  unfold Obligations.EveryStepKeepsTheWaveform
  intro s t hInv hWave hNoReset ht
  obtain ⟨l, hEq | ⟨i, hEq, hi⟩⟩ := step_cases hInv.1
  · cases hEq.symm.trans ht
    exact hWave
  · have hExec := hEq.symm.trans ht
    obtain ⟨-, x, hx, hRst⟩ | rfl | hBus := hi
    · exact absurd ((hNoReset x hx).symm.trans hRst) Bool.false_ne_true
    · cases hExec
      exact countTick_waveOk params_legal (s := respond none (withInputs l s)) hInv hWave
    · exact WaveOk.of_engineKept (s := withInputs l s) hWave (exec_bus_engineKept hBus hExec)

end Sys2Proof.Machine
end
